-- ==== Sys2Proof/Word.lean ====
section
/-! DEFINITION. The bit widths the manual uses: bytes on the links, 16-bit words of the rings, 32-bit times,
48-bit coil type codes; and the numbers of the heads, channels, slots, recipes and bindings. -/

namespace Sys2Proof

/-- A byte of a link frame (R173). -/
abbrev Byte := BitVec 8

/-- A word of a result ring: sixteen bits (1.5). -/
abbrev Word := BitVec 16

/-- A time in ms since CABINET_SETUP, wrapping after 2^32 ms (1.6, R150). -/
abbrev Time := BitVec 32

/-- A coil type code of six bytes (R1, R36). -/
abbrev TypeCode := BitVec 48

/-- H0 to H15. -/
abbrev HeadId := Fin 16

/-- C0 to C5. -/
abbrev ChannelId := Fin 6

/-- The four slots of a lane (R3). -/
abbrev SlotId := Fin 4

/-- Recipes 0 to 31 (R28). -/
abbrev RecipeId := Fin 32

/-- Bindings 0 to 23 (R36). -/
abbrev BindingId := Fin 24

end Sys2Proof
end

