-- ==== Sys2Proof/Syntax.lean ====
section
/-! DEFINITION. The commands: one constructor of Instr for each row of spec/opcode_table.json. -/

namespace Sys2Proof

/-- The two lanes (1.1). -/
inductive Lane where
  | a
  | b
deriving DecidableEq, Repr

/-- The three ports (R172). -/
inductive Port where
  | laneA
  | laneB
  | supervisor
deriving DecidableEq, Repr

/-- The state a head coolant switch reports (R50). -/
inductive CoolantSwitch where
  | ok
  | low
deriving DecidableEq, Repr

/-- The three cabinet inputs (R133), in the order in which standing alarms are taken. -/
inductive CabinetInput where
  | coolantFlow
  | busCurrent
  | groundMonitor
deriving DecidableEq, Repr

/-- How an energy report names an attempt: by the name the module was given with the target (R90 step 4), which is the
fields of R61 and the serial number of the attempt's grant, so that no two attempts have one name (log entry 19). -/
structure AttemptName where
  lane : Lane
  slot : SlotId
  joint : Nat
  head : HeadId
  recipe : RecipeId
  number : Nat
  serial : Nat
deriving DecidableEq, Repr

/-- A frame that has ended on a port. -/
structure PortFrame where
  port : Port
  bytes : List Byte
deriving DecidableEq, Repr

/-- The commands. A request carries the port it arrives on, its frame tag and its payload bytes (R173); its request
code is the row's own (R181). A field event carries what the field reports. -/
inductive Instr where
  | powerOn
  | frameDiscard (port : Port) (frame : List Byte) (byteError : Bool)
  | frameDroppedOverrun (frame : PortFrame)
  | answerSent (port : Port)
  | readStatus (port : Port) (tag : Byte) (payload : List Byte)
  | pollEvent (port : Port) (tag : Byte) (payload : List Byte)
  | setAttention (port : Port) (tag : Byte) (payload : List Byte)
  | postOrder (port : Port) (tag : Byte) (payload : List Byte)
  | release (port : Port) (tag : Byte) (payload : List Byte)
  | discard (port : Port) (tag : Byte) (payload : List Byte)
  | abortOrder (port : Port) (tag : Byte) (payload : List Byte)
  | setLanePolicy (port : Port) (tag : Byte) (payload : List Byte)
  | laneReset (port : Port) (tag : Byte) (payload : List Byte)
  | resumeRetry (port : Port) (tag : Byte) (payload : List Byte)
  | resumeSkip (port : Port) (tag : Byte) (payload : List Byte)
  | cue (port : Port) (tag : Byte) (payload : List Byte)
  | writeRecipe (port : Port) (tag : Byte) (payload : List Byte)
  | clearRecipe (port : Port) (tag : Byte) (payload : List Byte)
  | readRecipe (port : Port) (tag : Byte) (payload : List Byte)
  | writeBinding (port : Port) (tag : Byte) (payload : List Byte)
  | clearBinding (port : Port) (tag : Byte) (payload : List Byte)
  | setFamily (port : Port) (tag : Byte) (payload : List Byte)
  | readBinding (port : Port) (tag : Byte) (payload : List Byte)
  | writeHead (port : Port) (tag : Byte) (payload : List Byte)
  | maskHeads (port : Port) (tag : Byte) (payload : List Byte)
  | unmaskHeads (port : Port) (tag : Byte) (payload : List Byte)
  | clearHeadHealth (port : Port) (tag : Byte) (payload : List Byte)
  | readHead (port : Port) (tag : Byte) (payload : List Byte)
  | setBudget (port : Port) (tag : Byte) (payload : List Byte)
  | restoreChannel (port : Port) (tag : Byte) (payload : List Byte)
  | readResults (port : Port) (tag : Byte) (payload : List Byte)
  | ackResults (port : Port) (tag : Byte) (payload : List Byte)
  | setReader (port : Port) (tag : Byte) (payload : List Byte)
  | setResponse (port : Port) (tag : Byte) (payload : List Byte)
  | readErrorLog (port : Port) (tag : Byte) (payload : List Byte)
  | clearErrors (port : Port) (tag : Byte) (payload : List Byte)
  | cabinetReset (port : Port) (tag : Byte) (payload : List Byte)
  | cabinetSetup (port : Port) (tag : Byte) (payload : List Byte)
  | enterProof (port : Port) (tag : Byte) (payload : List Byte)
  | leaveProof (port : Port) (tag : Byte) (payload : List Byte)
  | pyrometerReading (head : HeadId) (reading : Option Nat)
  | sensorTimerExpiry (head : HeadId)
  | coolantSwitchReport (head : HeadId) (switch : CoolantSwitch)
  | cabinetInputChange (input : CabinetInput) (alarm : Bool)
  | inverterFaultReport (channel : ChannelId)
  | matrixFaultReport (channel : ChannelId)
  | energyReport (channel : ChannelId) (attempt : AttemptName) (segment : Nat)
  | segmentTimerExpiry (channel : ChannelId)
  | moveCompletion (channel : ChannelId) (confirmed : Bool) (loadPresent : Bool)
  | activation (lane : Lane)
  | candidateNaming
  | grant
  | deadlineExpiry (lane : Lane)
  | coolUntilExpiry (head : HeadId)
  | settlingExpiry
  | unknownRequestCode (port : Port) (code : Byte) (tag : Byte) (payload : List Byte)
deriving DecidableEq, Repr

end Sys2Proof
end

