-- ==== Sys2Proof/Config.lean ====
section
/-! DEFINITION. What the manual fixes for every HS-16, and the one free value of the model. -/

namespace Sys2Proof

/-- Capacity of a result ring in words (chapter 6, R115). -/
def Config.ringCapacity : Nat := 4096

/-- The sensor timeout of a head in ms (R48). -/
def Config.sensorTimeout : Nat := 20

/-- The greatest number of words of records in one READ_RESULTS answer (R124). -/
def Config.readLimit : Nat := 120

/-- The greatest payload of a request frame in bytes (R173). -/
def Config.maxPayload : Nat := 250

/-- The greatest post-dwell in ms (R28). -/
def Config.maxPostDwell : Nat := 5000

/-- FREE VALUE (log entry 5, DESIGN CHOICE): what the channel module answers when it is asked for the energy
metered in a segment (R94). The modules are outside the manual (1.3), so nothing constrains the value here; the
argument is the count of draws held in State. -/
opaque Config.freeEnergy : Nat → Nat

end Sys2Proof
end

