-- ==== Sys2Proof/Machine/State.lean ====
section
/-! DEFINITION. The state of the HS-16, block by block, as plain data; the reasons a step can stop; the state after
power-on. Where two names of the manual share storage, the value is stored once (log entry 21). -/

namespace Sys2Proof.Machine

/-- Nothing in the manual stops the module: every command, refused or not, leaves it running (R175 to R177, and log
entry 27). So there is no fault; a meaning can never answer one. -/
inductive Fault where
deriving DecidableEq, Repr

/-- The reasons a command can have no meaning. -/
inductive Refusal where
  /-- Raised by a command of the table that has no meaning yet (by exec's arm only; no arm raises it now). Safe: the
  machine stops. -/
  | notModelled (mnemonic : String)
deriving DecidableEq, Repr

/-- One value for each lane. -/
structure LaneTbl (α : Type) where
  a : α
  b : α
deriving DecidableEq, Repr

/-- One value for each port. -/
structure PortTbl (α : Type) where
  laneA : α
  laneB : α
  supervisor : α
deriving DecidableEq, Repr

/-! ## Master Link Interface (chapter 10) -/

/-- The causes of a link fault (R172, R174, R175). -/
inductive LinkCause where
  | check
  | startMark
  | length
  | byteError
  | overrun
deriving DecidableEq, Repr

/-- The answer codes (R179). -/
inductive AnswerCode where
  | ok
  | badRequest
  | notPermitted
  | badValue
  | unconfigured
  | quenched
  | once
  | noSlot
  | unboundType
  | classUnmapped
  | recipeEmpty
  | headNotLane
  | headInUse
  | inUse
  | duplicateType
  | notHalted
  | noActive
  | active
  | cueHeld
  | retryLimit
  | notReader
  | range
  | ringFull
  | wrongMode
  | busy
deriving DecidableEq, Repr

/-- An answer frame less its start mark, length and check, which follow from these fields (R176). -/
structure Answer where
  request : Byte
  tag : Byte
  code : AnswerCode
  payload : List Byte
deriving DecidableEq, Repr

/-- What the MLI holds for one port (R172). `rx` is the last frame the receive buffer took in while a request is in
service, the request's own at first (R175, log entry 9). The LINK_FAULT flag is set exactly when `linkFault` holds a cause.
`answer` is the answer frame the module drives on the link: being sent while `inService` is set, the last one sent
otherwise (log entry 10). -/
structure PortState where
  rx : Option (List Byte)
  inService : Bool
  linkFault : Option LinkCause
  answer : Option Answer
deriving DecidableEq, Repr

/-! ## Order Managers (chapter 1) -/

/-- The states of a joint (R86). -/
inductive JointState where
  | pending
  | cueWait
  | ready
  | transfer
  | heating
  | cooling
  | halted
  | done
deriving DecidableEq, Repr

/-- The outcomes of a joint (R102, R184). -/
inductive JointOutcome where
  | good
  | underheat
  | overheat
  | noLoad
  | sensorLost
  | faultAbort
  | aborted
  | interrupted
  | skippedLate
  | skippedHead
  | notRun
deriving DecidableEq, Repr

/-- One entry of a joint list (R2). -/
structure Joint where
  head : HeadId
  cls : Fin 8
  cue : Bool
  recipe : RecipeId
  state : JointState
  attempts : Nat
  outcome : Option JointOutcome
deriving DecidableEq, Repr

/-- The states of an order in a slot (R10). -/
inductive OrderState where
  | posted
  | running
  | halted
deriving DecidableEq, Repr

/-- An order record (R1), with the proof mark of R118. -/
structure Order where
  tag : Word
  code : TypeCode
  deadline : Nat
  joints : List Joint
  state : OrderState
  recipes : List RecipeId
  late : Bool
  discard : Bool
  abort : Bool
  nearDone : Bool
  proof : Bool
deriving DecidableEq, Repr

/-- The reheat policies (R23). -/
inductive Policy where
  | autoRetry
  | autoSkip
  | halt
deriving DecidableEq, Repr

/-- What the Order Manager of one lane holds (R3, R6, R13, R23, R106). -/
structure OrderManager where
  slots : Vector (Option Order) 4
  postPtr : SlotId
  released : Nat
  halted : List Nat
  deadline : Option Nat
  policy : Policy
  threshold : Nat
deriving DecidableEq, Repr

/-! ## Recipe Store and Binding Table (chapter 2) -/

/-- A segment: power in 0.1 kW, energy in 0.1 kJ (R29). -/
structure Segment where
  power : Nat
  maxTime : Nat
  tempTarget : Option Nat
  energyTarget : Option Nat
  required : Bool
deriving DecidableEq, Repr

/-- The contents of a DEFINED recipe (R28). -/
structure Recipe where
  segments : List Segment
  overtemp : Nat
  postDwell : Nat
  allowance : Nat
  peak : Nat
deriving DecidableEq, Repr

/-- A place of the recipe table: EMPTY when `recipe` is none; with its reference count (R28, R33). -/
structure RecipeEntry where
  recipe : Option Recipe
  refs : Nat
deriving DecidableEq, Repr

/-- A binding that is not EMPTY (R36); a class map entry none is ABSENT. -/
structure Binding where
  code : TypeCode
  classMap : Vector (Option RecipeId) 8
deriving DecidableEq, Repr

/-! ## Head Table (chapter 3) -/

/-- HIGH or LOW (R43). -/
inductive HeadClass where
  | low
  | high
deriving DecidableEq, Repr

/-- The three health flags (3.6). -/
inductive HealthFlag where
  | openCoil
  | sensorLost
  | coolantLow
deriving DecidableEq, Repr

/-- The health flags of a head (R43, R51). -/
structure Health where
  openCoil : Bool
  sensorLost : Bool
  coolantLow : Bool
deriving DecidableEq, Repr

/-- A head record (R43). -/
structure HeadRec where
  lane : Option Lane
  cls : HeadClass
  masked : Bool
  stay : Bool
  anticipation : Nat
  health : Health
  temp : Option Nat
  sensorTimer : Option Nat
  coolant : CoolantSwitch
  cueLatch : Bool
  coolUntil : Option Time
  connected : Option ChannelId
deriving DecidableEq, Repr

/-! ## Grant Arbiter and Channel Controllers (chapters 4 and 5) -/

/-- The Grant Arbiter (R60), less the bus ceiling, which is held with the setup values. Budget in kW, committed power
in 0.1 kW. -/
structure Arbiter where
  budget : Nat
  committed : Nat
  highPtr : HeadId
  lowPtr : HeadId
  lowTurn : Bool
  candidate : Option HeadId
  stays : Vector (Option HeadId) 6
deriving DecidableEq, Repr

/-- The channel states (R61). -/
inductive ChannelState where
  | offline
  | idle
  | transfer
  | heating
  | faulted
  | stopped
deriving DecidableEq, Repr

/-- The causes a FAULT_ABORT record can carry (R117). -/
inductive AbortCause where
  | inverter
  | matrix
  | headCoolant
deriving DecidableEq, Repr

/-- The attempt results (R100); FAULT_ABORT with its cause. -/
inductive AttemptResult where
  | good
  | shortfall
  | overheat
  | noLoad
  | sensorLost
  | faultAbort (cause : AbortCause)
  | aborted
  | interrupted
deriving DecidableEq, Repr

/-- The end reasons of a segment (R88). -/
inductive EndReason where
  | temp
  | energy
  | time
  | cut
deriving DecidableEq, Repr

/-- A segment entry (R88, R117). -/
structure SegmentEntry where
  reason : EndReason
  elapsed : Nat
deriving DecidableEq, Repr

/-- The current attempt of a channel (R61); `proof` says that it was granted in PROOF (R112, log entry 17), and `serial`
is the place of its grant among all grants, by which the module's reports tell attempts apart (R92, log entry 19). -/
structure Attempt where
  lane : Lane
  slot : SlotId
  joint : Nat
  head : HeadId
  recipe : RecipeId
  number : Nat
  peak : Nat
  abandoned : Bool
  proof : Bool
  serial : Nat
deriving DecidableEq, Repr

/-- The working state of a channel while it is HEATING (R88). Segment index from 1; energy in 0.1 kJ. -/
structure Heating where
  segment : Nat
  segTimer : Nat
  segStart : Time
  energy : Nat
  peakTemp : Nat
  start : Time
  entries : List SegmentEntry
deriving DecidableEq, Repr

/-- A channel record (R61, R75, R88). -/
structure ChannelRec where
  state : ChannelState
  parked : Option HeadId
  attempt : Option Attempt
  faultHeld : Bool
  moveTimer : Option Nat
  heat : Option Heating
deriving DecidableEq, Repr

/-! ## Result Rings (chapter 6) -/

/-- A joint record (R117). `places` is the number of segments of the recipe; the QUENCH flag is set exactly when the
result is INTERRUPTED (R183). -/
structure JointRecord where
  lane : Lane
  slot : SlotId
  tag : Word
  joint : Nat
  head : HeadId
  channel : ChannelId
  recipe : RecipeId
  number : Nat
  result : AttemptResult
  energy : Nat
  peakTemp : Nat
  heatTime : Nat
  proof : Bool
  time : Time
  places : Nat
  entries : List SegmentEntry
deriving DecidableEq, Repr

/-- The completion kinds (R11). -/
inductive CompletionKind where
  | normal
  | late
  | aborted
  | withdrawn
  | discarded
  | interrupted
deriving DecidableEq, Repr

/-- A completion record (R118): for each joint its outcome and attempt number. R39 says that the record reports the
order's type code, and neither R118 nor the words of R184 have a place for it: the record holds the code, and its words
leave it out (log entry 30). -/
structure CompletionRecord where
  lane : Lane
  slot : SlotId
  tag : Word
  code : TypeCode
  kind : CompletionKind
  proof : Bool
  time : Time
  joints : List (JointOutcome × Nat)
deriving DecidableEq, Repr

/-- The two record kinds (6.2). -/
inductive Record where
  | joint (r : JointRecord)
  | completion (r : CompletionRecord)
deriving DecidableEq, Repr

/-- The reader of a ring (R115, R127). -/
inductive Reader where
  | lane
  | supervisor
deriving DecidableEq, Repr

/-- A result ring (R115); the stored count and the used words are functions of the records. -/
structure Ring where
  records : List Record
  reserved : Nat
  reader : Reader
deriving DecidableEq, Repr

/-! ## Fault Control (chapter 7) -/

/-- The six cause classes (R132). -/
inductive CauseClass where
  | cabinetCoolant
  | busOvercurrent
  | groundFault
  | inverter
  | matrix
  | headCoolant
deriving DecidableEq, Repr

/-- The responses (R134). -/
inductive Response where
  | quench
  | contain
deriving DecidableEq, Repr

/-- The severities, in rising order (R144). -/
inductive Severity where
  | clear
  | contained
  | quench
deriving DecidableEq, Repr

/-- A fault entry (R132). -/
structure FaultEntry where
  cause : CauseClass
  channel : Option ChannelId
  head : Option HeadId
  lane : Option Lane
  slot : Option SlotId
  tag : Option Word
  joint : Option Nat
  time : Time
deriving DecidableEq, Repr

/-- Fault Control (R133, R134, R143, R144). An input is true while it stands in alarm (LOW, OVER, FAULT). -/
structure FaultControl where
  inverter : Response
  matrix : Response
  headCoolant : Response
  severity : Severity
  cabinetLog : Option FaultEntry
  laneLogs : LaneTbl (Option FaultEntry)
  coolantFlow : Bool
  busCurrent : Bool
  groundMonitor : Bool
deriving DecidableEq, Repr

/-! ## Cabinet Control (chapter 8) -/

/-- The cabinet modes (R150). -/
inductive Mode where
  | unconfigured
  | settling
  | live
  | proof
  | quenched
deriving DecidableEq, Repr

/-- The four setup values (R150): channels installed, bus ceiling in kW, transfer time and settling interval in ms. -/
structure Setup where
  channels : Nat
  ceiling : Nat
  transfer : Nat
  settling : Nat
deriving DecidableEq, Repr

/-- Cabinet Control (R150). -/
structure Cabinet where
  mode : Mode
  setup : Option Setup
  settlingTimer : Option Nat
  timeBase : Option Time
  dummyLoad : Bool
deriving DecidableEq, Repr

/-! ## Event Units (chapter 9) -/

/-- The context of an event: four optional parts (R162). -/
structure Context where
  lane : Option Lane
  slot : Option SlotId
  tag : Option Word
  head : Option HeadId
deriving DecidableEq, Repr

/-- The kinds that are raised by posting (R163). -/
inductive PostedKind where
  | quench
  | containError
  | headFault
  | orderLate
  | cabinetLive
  | orderDone
  | nearDone
  | slotFree
deriving DecidableEq, Repr

/-- All event kinds (R163). -/
inductive EventKind where
  | posted (kind : PostedKind)
  | orderHalted
  | resultsPending
deriving DecidableEq, Repr

/-- An Event Unit (R162): a posted kind is pending when it holds a context; the condition marks; the poll-reported
mark; the attention enable. -/
structure EventUnit where
  quench : Option Context
  containError : Option Context
  headFault : Option Context
  orderLate : Option Context
  cabinetLive : Option Context
  orderDone : Option Context
  nearDone : Option Context
  slotFree : Option Context
  halted : Bool
  results : LaneTbl Bool
  pollMark : Bool
  attention : Bool
deriving DecidableEq, Repr

/-! ## The whole module -/

/-- The state of the module and the queue of commands waiting for it. `draws` counts the draws of metered energy
(log entry 5), `grants` the grants made, which number the attempts (log entry 19). -/
structure State where
  pending : List Instr
  ports : PortTbl PortState
  oms : LaneTbl OrderManager
  recipes : Vector RecipeEntry 32
  bindings : Vector (Option Binding) 24
  family : BitVec 64
  defaults : LaneTbl (Option BindingId)
  heads : Vector HeadRec 16
  arbiter : Arbiter
  channels : Vector ChannelRec 6
  rings : LaneTbl Ring
  faults : FaultControl
  cabinet : Cabinet
  units : PortTbl EventUnit
  draws : Nat
  grants : Nat
deriving DecidableEq, Repr

/-- A port after power-on (R172). -/
def PortState.reset : PortState := { rx := none, inService := false, linkFault := none, answer := none }

/-- An Order Manager after power-on (R27). -/
def OrderManager.reset : OrderManager :=
  { slots := Vector.replicate 4 none, postPtr := 0, released := 0, halted := [], deadline := none,
    policy := .autoSkip, threshold := 0 }

/-- A head record after power-on (R59). -/
def HeadRec.reset : HeadRec :=
  { lane := none, cls := .low, masked := true, stay := false, anticipation := 0,
    health := { openCoil := false, sensorLost := false, coolantLow := false }, temp := none, sensorTimer := none,
    coolant := .ok, cueLatch := false, coolUntil := none, connected := none }

/-- The Grant Arbiter after power-on (R60, R85). -/
def Arbiter.reset : Arbiter :=
  { budget := 0, committed := 0, highPtr := 15, lowPtr := 15, lowTurn := false, candidate := none,
    stays := Vector.replicate 6 none }

/-- A channel record after power-on (R85, R114). -/
def ChannelRec.reset : ChannelRec :=
  { state := .offline, parked := none, attempt := none, faultHeld := false, moveTimer := none, heat := none }

/-- A ring after power-on (R131). -/
def Ring.reset : Ring := { records := [], reserved := 0, reader := .lane }

/-- Fault Control after power-on (R149). -/
def FaultControl.reset : FaultControl :=
  { inverter := .quench, matrix := .quench, headCoolant := .contain, severity := .clear, cabinetLog := none,
    laneLogs := { a := none, b := none }, coolantFlow := false, busCurrent := false, groundMonitor := false }

/-- Cabinet Control after power-on (R150, R161). -/
def Cabinet.reset : Cabinet :=
  { mode := .unconfigured, setup := none, settlingTimer := none, timeBase := none, dummyLoad := false }

/-- An Event Unit after power-on (R162, R171). -/
def EventUnit.reset : EventUnit :=
  { quench := none, containError := none, headFault := none, orderLate := none, cabinetLive := none,
    orderDone := none, nearDone := none, slotFree := none, halted := false,
    results := { a := false, b := false }, pollMark := false, attention := false }

/-- The module right after power-on ("The module after power-on", chapter 8), with an empty queue. -/
def State.reset : State :=
  { pending := [],
    ports := { laneA := .reset, laneB := .reset, supervisor := .reset },
    oms := { a := .reset, b := .reset },
    recipes := Vector.replicate 32 { recipe := none, refs := 0 },
    bindings := Vector.replicate 24 none,
    family := 0,
    defaults := { a := none, b := none },
    heads := Vector.replicate 16 .reset,
    arbiter := .reset,
    channels := Vector.replicate 6 .reset,
    rings := { a := .reset, b := .reset },
    faults := .reset,
    cabinet := .reset,
    units := { laneA := .reset, laneB := .reset, supervisor := .reset },
    draws := 0,
    grants := 0 }

end Sys2Proof.Machine
end

