-- ==== Sys2Proof/Machine/Ops.lean ====
section
/-! DEFINITION. The named operations over State: reading and writing each table, the passing of time, the slots of a
lane, reference counts, ring space and the parking of channels. -/

namespace Sys2Proof.Machine

/-! ## Tables -/

/-- The entry of a lane. -/
def LaneTbl.get {α : Type} (t : LaneTbl α) : Lane → α
  | .a => t.a
  | .b => t.b

/-- The table with the entry of a lane replaced. -/
def LaneTbl.set {α : Type} (t : LaneTbl α) (l : Lane) (x : α) : LaneTbl α :=
  match l with
  | .a => { t with a := x }
  | .b => { t with b := x }

/-- The entry of a port. -/
def PortTbl.get {α : Type} (t : PortTbl α) : Port → α
  | .laneA => t.laneA
  | .laneB => t.laneB
  | .supervisor => t.supervisor

/-- The table with the entry of a port replaced. -/
def PortTbl.set {α : Type} (t : PortTbl α) (p : Port) (x : α) : PortTbl α :=
  match p with
  | .laneA => { t with laneA := x }
  | .laneB => { t with laneB := x }
  | .supervisor => { t with supervisor := x }

/-- The table whose entry i is f i. -/
def tabulate {α : Type} {n : Nat} (f : Fin n → α) : Vector α n :=
  ⟨⟨(List.finRange n).map f⟩, by simp⟩

/-- H0 to H15. -/
def allHeads : List HeadId := List.finRange 16

/-- C0 to C5. -/
def allChannels : List ChannelId := List.finRange 6

/-- Slots 0 to 3. -/
def allSlots : List SlotId := List.finRange 4

/-- Both lanes. -/
def allLanes : List Lane := [.a, .b]

/-- The lane port of a lane (1.1). -/
def lanePort : Lane → Port
  | .a => .laneA
  | .b => .laneB

/-- The lane of a lane port; none for the Supervisor Port. -/
def portLane : Port → Option Lane
  | .laneA => some .a
  | .laneB => some .b
  | .supervisor => none

/-! ## Reading and writing State, one home for each block -/

def State.port (s : State) (p : Port) : PortState := s.ports.get p
def State.setPort (s : State) (p : Port) (x : PortState) : State := { s with ports := s.ports.set p x }
def State.om (s : State) (l : Lane) : OrderManager := s.oms.get l
def State.setOm (s : State) (l : Lane) (x : OrderManager) : State := { s with oms := s.oms.set l x }
def State.head (s : State) (h : HeadId) : HeadRec := s.heads.get h
def State.setHead (s : State) (h : HeadId) (x : HeadRec) : State := { s with heads := s.heads.set h x }
def State.chan (s : State) (c : ChannelId) : ChannelRec := s.channels.get c
def State.setChan (s : State) (c : ChannelId) (x : ChannelRec) : State := { s with channels := s.channels.set c x }
def State.ring (s : State) (l : Lane) : Ring := s.rings.get l
def State.setRing (s : State) (l : Lane) (x : Ring) : State := { s with rings := s.rings.set l x }
def State.unit (s : State) (p : Port) : EventUnit := s.units.get p
def State.setUnit (s : State) (p : Port) (x : EventUnit) : State := { s with units := s.units.set p x }
def State.setArbiter (s : State) (x : Arbiter) : State := { s with arbiter := x }
def State.setFaults (s : State) (x : FaultControl) : State := { s with faults := x }
def State.setCabinet (s : State) (x : Cabinet) : State := { s with cabinet := x }

def State.modOm (s : State) (l : Lane) (f : OrderManager → OrderManager) : State := s.setOm l (f (s.om l))
def State.modHead (s : State) (h : HeadId) (f : HeadRec → HeadRec) : State := s.setHead h (f (s.head h))
def State.modChan (s : State) (c : ChannelId) (f : ChannelRec → ChannelRec) : State := s.setChan c (f (s.chan c))
def State.modRing (s : State) (l : Lane) (f : Ring → Ring) : State := s.setRing l (f (s.ring l))
def State.modUnit (s : State) (p : Port) (f : EventUnit → EventUnit) : State := s.setUnit p (f (s.unit p))
def State.modArbiter (s : State) (f : Arbiter → Arbiter) : State := s.setArbiter (f s.arbiter)

/-- One grant more has been made (log entry 19). -/
def State.countGrant (s : State) : State := { s with grants := s.grants + 1 }

/-- Every head record changed at once. -/
def State.mapHeads (s : State) (f : HeadId → HeadRec → HeadRec) : State :=
  { s with heads := tabulate fun h => f h (s.head h) }

/-- Every channel record changed at once. -/
def State.mapChans (s : State) (f : ChannelId → ChannelRec → ChannelRec) : State :=
  { s with channels := tabulate fun c => f c (s.chan c) }

/-! ## Time (R13, R48, R75, R88, R150, R154) -/

/-- The time base; 0 before setup, when nothing that is stored is stamped. -/
def State.now (s : State) : Time := s.cabinet.timeBase.getD 0

/-- A running timer with `ms` less left, standing at 0 once run down (log entry 3). -/
def runDown (ms : Nat) (t : Option Nat) : Option Nat := t.map fun left => left - ms

/-- The passing of `ms`: the time base advances and wraps, and every running timer runs down. -/
def State.elapse (s : State) (ms : Nat) : State :=
  { s with
    cabinet := { s.cabinet with
      settlingTimer := runDown ms s.cabinet.settlingTimer
      timeBase := s.cabinet.timeBase.map fun t => t + BitVec.ofNat 32 ms }
    oms := { a := { s.oms.a with deadline := runDown ms s.oms.a.deadline }
             b := { s.oms.b with deadline := runDown ms s.oms.b.deadline } }
    heads := tabulate fun h => { s.head h with sensorTimer := runDown ms (s.head h).sensorTimer }
    channels := tabulate fun c =>
      { s.chan c with
        moveTimer := runDown ms (s.chan c).moveTimer
        heat := (s.chan c).heat.map fun w => { w with segTimer := w.segTimer - ms } } }

/-- The ms from `start` to now, across the wrap of the time base. -/
def State.since (s : State) (start : Time) : Nat := (s.now - start).toNat

/-- The ms left to a head's cool-until (R56, R58). A post-dwell is at most 5000 ms (R28), so a greater difference
means that the time has passed and its expiry has not been taken yet (log entry 24). -/
def State.coolLeft (s : State) (h : HeadId) : Option Nat :=
  (s.head h).coolUntil.map fun t =>
    if (t - s.now).toNat ≤ Config.maxPostDwell then (t - s.now).toNat else 0

/-! ## Modes (R150) -/

def State.mode (s : State) : Mode := s.cabinet.mode

/-- LIVE or PROOF: the modes in which grants and activations are made (R150). -/
def State.working (s : State) : Bool := s.mode == .live || s.mode == .proof

/-- The bus ceiling in kW, or none before setup (R60). -/
def State.ceiling (s : State) : Option Nat := s.cabinet.setup.map (·.ceiling)

/-! ## Slots and orders (R3, R10) -/

def State.order (s : State) (l : Lane) (k : SlotId) : Option Order := (s.om l).slots.get k

/-- The slot with its order replaced, or freed. -/
def State.setSlot (s : State) (l : Lane) (k : SlotId) (o : Option Order) : State :=
  s.modOm l fun om => { om with slots := om.slots.set k o }

/-- The order of an occupied slot changed; a FREE slot stays FREE. -/
def State.modOrder (s : State) (l : Lane) (k : SlotId) (f : Order → Order) : State :=
  match s.order l k with
  | some o => s.setSlot l k (some (f o))
  | none => s

/-- One joint of an order changed. -/
def Order.modJoint (o : Order) (i : Nat) (f : Joint → Joint) : Order := { o with joints := o.joints.modify i f }

def State.modJoint (s : State) (l : Lane) (k : SlotId) (i : Nat) (f : Joint → Joint) : State :=
  s.modOrder l k fun o => o.modJoint i f

/-- The order when it is RUNNING or HALTED. -/
def activeOnly (k : SlotId) (o : Option Order) : Option (SlotId × Order) :=
  match o with
  | some o => if o.state = .posted then none else some (k, o)
  | none => none

/-- The lane's active order and its slot (R10). -/
def State.active (s : State) (l : Lane) : Option (SlotId × Order) :=
  allSlots.findSome? fun k => activeOnly k (s.order l k)

/-- The order when it is POSTED. -/
def postedOnly (k : SlotId) (o : Option Order) : Option (SlotId × Order) :=
  match o with
  | some o => if o.state = .posted then some (k, o) else none
  | none => none

/-- The slots in age order: searching forward from the post pointer, with wrap (R3). -/
def OrderManager.ageOrder (om : OrderManager) : List SlotId :=
  [om.postPtr, om.postPtr + 1, om.postPtr + 2, om.postPtr + 3]

/-- The POSTED orders of the lane, oldest first (R3). -/
def State.postedOrders (s : State) (l : Lane) : List (SlotId × Order) :=
  (s.om l).ageOrder.filterMap fun k => postedOnly k (s.order l k)

/-- The oldest posted order (R3). -/
def State.oldestPosted (s : State) (l : Lane) : Option (SlotId × Order) := (s.postedOrders l).head?

/-- The order of a slot is among the released ones: its place among the POSTED orders in age order is within the
released count (R6, R21). -/
def State.isReleased (s : State) (l : Lane) (k : SlotId) : Bool :=
  ((s.postedOrders l).take (s.om l).released).any fun p => p.1 == k

/-- The joint given its outcome; it is DONE exactly then (R2). -/
def Joint.giveOutcome (j : Joint) (out : JointOutcome) : Joint := { j with state := .done, outcome := some out }

/-- The number of joints with an outcome. -/
def Order.outcomeCount (o : Order) : Nat := (o.joints.filter fun j => j.outcome.isSome).length

/-- Every joint has an outcome (R11). -/
def Order.allDone (o : Order) : Bool := o.joints.all fun j => j.outcome.isSome

/-- Size in words of the order's completion record: 6 + joint count (R118). -/
def Order.recordSize (o : Order) : Nat := 6 + o.joints.length

/-- The late, discard or abort flag is set: the order winds down (R10). -/
def Order.windingDown (o : Order) : Bool := o.late || o.discard || o.abort

/-- The index of the front joint of a head: the first joint in list order on it whose outcome is absent (R9). -/
def Order.frontIndex (o : Order) (h : HeadId) : Option Nat :=
  o.joints.findIdx? fun j => j.head == h && j.outcome.isNone

/-- The front joint of a head in an order, with its index. -/
def Order.front (o : Order) (h : HeadId) : Option (Nat × Joint) :=
  match o.frontIndex h with
  | some i => match o.joints[i]? with
    | some j => some (i, j)
    | none => none
  | none => none

/-- A joint being heated or moved to (R86). -/
def Joint.inAttempt (j : Joint) : Bool := j.state == .transfer || j.state == .heating

/-- A joint that has not been begun or waits for its turn: PENDING, CUE_WAIT or READY. -/
def Joint.waiting (j : Joint) : Bool := j.state == .pending || j.state == .cueWait || j.state == .ready

/-- A joint in COOLING or in the halted-joint list. -/
def Joint.coolingOrHalted (j : Joint) : Bool := j.state == .cooling || j.state == .halted

/-! ## Recipes (R28, R33) -/

/-- What a reader of an EMPTY recipe finds; no order refers to one (log entry 22). -/
def Recipe.empty : Recipe := { segments := [], overtemp := 0, postDwell := 0, allowance := 0, peak := 0 }

def State.recipe (s : State) (r : RecipeId) : Recipe := (s.recipes.get r).recipe.getD Recipe.empty

/-- Size in words of an attempt's joint record: 8 + 2 × segment count (R28, R117). -/
def Recipe.recordSize (r : Recipe) : Nat := 8 + 2 * r.segments.length

/-- The greatest segment power (R31). -/
def peakOf (segments : List Segment) : Nat := segments.foldl (fun p g => max p g.power) 0

/-- One reference added for each recipe of a recipe set (R33). -/
def State.addRefs (s : State) (set : List RecipeId) : State :=
  { s with recipes := tabulate fun r =>
      if r ∈ set then { s.recipes.get r with refs := (s.recipes.get r).refs + 1 } else s.recipes.get r }

/-- One reference removed for each recipe of a recipe set (R33). -/
def State.dropRefs (s : State) (set : List RecipeId) : State :=
  { s with recipes := tabulate fun r =>
      if r ∈ set then { s.recipes.get r with refs := (s.recipes.get r).refs - 1 } else s.recipes.get r }

/-! ## Heads and channels -/

def Health.any (f : Health) : Bool := f.openCoil || f.sensorLost || f.coolantLow

def Health.has (f : Health) : HealthFlag → Bool
  | .openCoil => f.openCoil
  | .sensorLost => f.sensorLost
  | .coolantLow => f.coolantLow

def Health.set (f : Health) : HealthFlag → Health
  | .openCoil => { f with openCoil := true }
  | .sensorLost => { f with sensorLost := true }
  | .coolantLow => { f with coolantLow := true }

/-- The front joint of a head in its own lane's active order, with lane, slot, order and index. -/
def State.frontOf (s : State) (h : HeadId) : Option (Lane × SlotId × Order × Nat × Joint) :=
  match (s.head h).lane with
  | none => none
  | some l => match s.active l with
    | none => none
    | some (k, o) => match o.front h with
      | none => none
      | some (i, j) => some (l, k, o, i, j)

/-- The channel that is heating a head: its connected channel, in HEATING (chapter 3). -/
def State.heatingChannel (s : State) (h : HeadId) : Option ChannelId :=
  match (s.head h).connected with
  | none => none
  | some c => if (s.chan c).state = .heating then some c else none

/-- A channel in TRANSFER for an attempt on the head (chapter 3). -/
def State.movingChannel (s : State) (h : HeadId) : Option ChannelId :=
  allChannels.find? fun c =>
    (s.chan c).state == .transfer && (s.chan c).parked == some h && (s.chan c).attempt.isSome

/-- A channel's parking replaced; the connected-channel fields of the heads follow it (R57, R68). -/
def State.setParked (s : State) (c : ChannelId) (h : Option HeadId) : State :=
  let s1 := match (s.chan c).parked with
    | some old => if (s.head old).connected = some c then s.modHead old fun r => { r with connected := none } else s
    | none => s
  let s2 := s1.modChan c fun r => { r with parked := h }
  match h with
  | some new => s2.modHead new fun r => { r with connected := some c }
  | none => s2

/-- The stay reservation of a channel. -/
def State.stay (s : State) (c : ChannelId) : Option HeadId := s.arbiter.stays.get c

def State.setStay (s : State) (c : ChannelId) (h : Option HeadId) : State :=
  s.modArbiter fun a => { a with stays := a.stays.set c h }

/-- Every stay reservation for a head of a set lifted (R73). -/
def State.liftStays (s : State) (which : HeadId → Bool) : State :=
  let lifted (c : ChannelId) : Option HeadId :=
    match s.stay c with
    | some h => if which h then none else some h
    | none => none
  s.modArbiter fun a => { a with stays := tabulate lifted }

/-- The head is assigned to the lane. -/
def State.ofLane (s : State) (l : Lane) (h : HeadId) : Bool := (s.head h).lane == some l

/-! ## Ring space (R115, R116) -/

/-- Size of a record in words (R117, R118). -/
def Record.size : Record → Nat
  | .joint r => 8 + 2 * r.places
  | .completion r => 6 + r.joints.length

/-- The sum of the sizes of records. -/
def wordsOf (rs : List Record) : Nat := (rs.map Record.size).sum

def Ring.stored (r : Ring) : Nat := r.records.length
def Ring.used (r : Ring) : Nat := wordsOf r.records

/-- Capacity less used words less reserved words (R115). -/
def Ring.free (r : Ring) : Nat := Config.ringCapacity - r.used - r.reserved

/-- The port that reads a ring (R115, R124). -/
def readerPort (l : Lane) : Reader → Port
  | .lane => lanePort l
  | .supervisor => .supervisor

def State.reserve (s : State) (l : Lane) (words : Nat) : State :=
  s.modRing l fun r => { r with reserved := r.reserved + words }

/-- A reservation returned or consumed. -/
def State.unreserve (s : State) (l : Lane) (words : Nat) : State :=
  s.modRing l fun r => { r with reserved := r.reserved - words }

/-- A ring's report of its condition to the Event Unit of a port (R128). -/
def State.reportResults (s : State) (p : Port) (l : Lane) (nonEmpty : Bool) : State :=
  s.modUnit p fun u => { u with results := u.results.set l nonEmpty }

/-- A record joins the tail of its ring; when the stored count goes from 0 to 1 the ring reports non-empty to its
reader port (R119, R128). -/
def State.appendRecord (s : State) (l : Lane) (rec : Record) : State :=
  let s1 := s.modRing l fun r => { r with records := r.records ++ [rec] }
  if (s.ring l).records.isEmpty then s1.reportResults (readerPort l (s.ring l).reader) l true else s1

/-- A record written into its reservation: its size moves from reserved words to used words (R122, R123). -/
def State.writeRecord (s : State) (l : Lane) (rec : Record) : State :=
  (s.unreserve l rec.size).appendRecord l rec

/-! ## The metering of energy (R94, R117) -/

/-- The energy, in 0.1 kJ, that a channel module answers for a segment that ends: a free value, at most the power over
the maximum time (R117's bound), and at least the energy target when the module reported it reached (R92; log entry 5). -/
def meteredEnergy (draw : Nat) (seg : Segment) (reason : EndReason) : Nat :=
  let e := Config.freeEnergy draw % (seg.power * seg.maxTime / 1000 + 1)
  match reason with
  | .energy => max e (seg.energyTarget.getD 0)
  | .temp => e
  | .time => e
  | .cut => e

end Sys2Proof.Machine
end

