-- ==== Sys2Proof/Machine/Flags.lean ====
section
/-! DEFINITION. The Event Units: raising and clearing, the pending set, the event vector, the attention line
(chapter 9). -/

namespace Sys2Proof.Machine

/-- A context with all four parts absent (R162). -/
def Context.none : Context := { lane := Option.none, slot := Option.none, tag := Option.none, head := Option.none }

/-- The stored context of a posted kind; the kind is pending when there is one. -/
def EventUnit.get (u : EventUnit) : PostedKind → Option Context
  | .quench => u.quench
  | .containError => u.containError
  | .headFault => u.headFault
  | .orderLate => u.orderLate
  | .cabinetLive => u.cabinetLive
  | .orderDone => u.orderDone
  | .nearDone => u.nearDone
  | .slotFree => u.slotFree

def EventUnit.put (u : EventUnit) (k : PostedKind) (c : Option Context) : EventUnit :=
  match k with
  | .quench => { u with quench := c }
  | .containError => { u with containError := c }
  | .headFault => { u with headFault := c }
  | .orderLate => { u with orderLate := c }
  | .cabinetLive => { u with cabinetLive := c }
  | .orderDone => { u with orderDone := c }
  | .nearDone => { u with nearDone := c }
  | .slotFree => { u with slotFree := c }

/-- A posting: the kind is pending with the context of this raising; SLOT_FREE also clears the poll-reported mark
(R164, R167). -/
def EventUnit.post (u : EventUnit) (k : PostedKind) (c : Context) : EventUnit :=
  let u1 := u.put k (some c)
  match k with
  | .slotFree => { u1 with pollMark := false }
  | .quench => u1
  | .containError => u1
  | .headFault => u1
  | .orderLate => u1
  | .cabinetLive => u1
  | .orderDone => u1
  | .nearDone => u1

/-- A posting to the Event Unit of a port (R164). -/
def State.post (s : State) (p : Port) (k : PostedKind) (c : Context) : State := s.modUnit p fun u => u.post k c

/-- The Order Manager's report that its active order is HALTED, or no longer is (R165). -/
def State.reportHalted (s : State) (l : Lane) (holds : Bool) : State :=
  s.modUnit (lanePort l) fun u => { u with halted := holds }

/-- The kinds of a lane unit, highest first (R163). -/
def laneKinds : List EventKind :=
  [.posted .quench, .posted .headFault, .orderHalted, .posted .orderLate, .posted .cabinetLive, .posted .orderDone,
   .resultsPending, .posted .nearDone, .posted .slotFree]

/-- The kinds of the supervisor unit, highest first (R163). -/
def supervisorKinds : List EventKind :=
  [.posted .quench, .posted .containError, .posted .headFault, .posted .cabinetLive, .resultsPending]

def kindsOf : Port → List EventKind
  | .laneA => laneKinds
  | .laneB => laneKinds
  | .supervisor => supervisorKinds

/-- The priority codes of the lane units (R163); 0 for a kind a lane unit does not hold. -/
def laneCode : EventKind → Nat
  | .posted .quench => 9
  | .posted .headFault => 8
  | .orderHalted => 7
  | .posted .orderLate => 6
  | .posted .cabinetLive => 5
  | .posted .orderDone => 4
  | .resultsPending => 3
  | .posted .nearDone => 2
  | .posted .slotFree => 1
  | .posted .containError => 0

/-- The priority codes of the supervisor unit (R163); 0 for a kind it does not hold. -/
def supervisorCode : EventKind → Nat
  | .posted .quench => 5
  | .posted .containError => 4
  | .posted .headFault => 3
  | .posted .cabinetLive => 2
  | .resultsPending => 1
  | .orderHalted => 0
  | .posted .orderLate => 0
  | .posted .orderDone => 0
  | .posted .nearDone => 0
  | .posted .slotFree => 0

def eventCode : Port → EventKind → Nat
  | .laneA => laneCode
  | .laneB => laneCode
  | .supervisor => supervisorCode

/-- A posted kind is pending while it holds a context; a condition kind while its condition is reported (R165). -/
def EventUnit.isPending (u : EventUnit) : EventKind → Bool
  | .posted k => (u.get k).isSome
  | .orderHalted => u.halted
  | .resultsPending => u.results.a || u.results.b

/-- The pending kinds of a port, highest first. -/
def State.pendingKinds (s : State) (p : Port) : List EventKind :=
  (kindsOf p).filter fun k => (s.unit p).isPending k

/-- The pending codes of a port, highest first (R166, R170). -/
def State.pendingCodes (s : State) (p : Port) : List Nat := (s.pendingKinds p).map (eventCode p)

/-- The highest pending kind, or none (R162, R163). -/
def State.vectorKind (s : State) (p : Port) : Option EventKind := (s.pendingKinds p).head?

/-- The event vector: the code of the highest pending kind, or 0 for NONE (R162). -/
def State.vector (s : State) (p : Port) : Nat :=
  match s.vectorKind p with
  | some k => eventCode p k
  | none => 0

/-- The attention line is asserted while the vector is not NONE and the enable is enabled (R168). -/
def State.attentionLine (s : State) (p : Port) : Bool := (s.vectorKind p).isSome && (s.unit p).attention

/-- The context of lane, slot and tag of an order. -/
def orderContext (l : Lane) (k : SlotId) (o : Order) : Context :=
  { lane := some l, slot := some k, tag := some o.tag, head := none }

/-- The context of SLOT_FREE: the lane and the slot freed (R12, R163). -/
def slotContext (l : Lane) (k : SlotId) : Context := { lane := some l, slot := some k, tag := none, head := none }

/-- The context reported with a kind: the stored one, or the owner's present state for a condition kind (R165, R166). -/
def State.contextOf (s : State) (p : Port) (kind : EventKind) : Context :=
  match kind with
  | .posted k => ((s.unit p).get k).getD .none
  | .orderHalted => match portLane p with
    | some l => match s.active l with
      | some (k, o) => orderContext l k o
      | none => .none
    | none => .none
  | .resultsPending =>
    if (s.unit p).results.a then { Context.none with lane := some .a }
    else if (s.unit p).results.b then { Context.none with lane := some .b }
    else .none

/-- An accepted POST_ORDER on the lane, taken after the slot is filled (R5, R167): with the poll-reported mark set, or
with no slot of the lane FREE any more, SLOT_FREE is cleared; the mark is clear after it. -/
def State.reportPost (s : State) (l : Lane) : State :=
  let full := allSlots.all fun k => (s.order l k).isSome
  s.modUnit (lanePort l) fun u =>
    { u with slotFree := if u.pollMark || full then none else u.slotFree, pollMark := false }

/-- A LANE_RESET clears the pending events and condition marks of its lane unit; the attention enable is kept
(R26, R171). -/
def EventUnit.clear (u : EventUnit) : EventUnit := { EventUnit.reset with attention := u.attention }

end Sys2Proof.Machine
end

