-- ==== Sys2Proof/Machine/Arbitration.lean ====
section
/-! DEFINITION. The Grant Arbiter's judgements: which heads request, which channels are grantable, the naming and the
dropping of the candidate, the choice of a channel (R62 to R67). -/

namespace Sys2Proof.Machine

/-- A channel is in TRANSFER for a move without an attempt to the head (R62). -/
def State.bareMoveTo (s : State) (h : HeadId) : Bool :=
  allChannels.any fun c =>
    (s.chan c).state == .transfer && (s.chan c).parked == some h && (s.chan c).attempt.isNone

/-- The head is requesting (R62). -/
def State.requesting (s : State) (h : HeadId) : Bool :=
  match s.frontOf h with
  | none => false
  | some (l, _, o, _, j) =>
    let r := s.head h
    !r.masked && !r.health.any && j.state == .ready && r.coolUntil.isNone && !s.bareMoveTo h &&
      o.state == .running && !o.discard && s.working &&
      decide ((s.recipe j.recipe).recordSize ≤ (s.ring l).free)

/-- The channel is grantable to the head: installed, IDLE, not stay-reserved for another head (R63). -/
def State.grantable (s : State) (c : ChannelId) (h : HeadId) : Bool :=
  (s.chan c).state == .idle && (s.stay c).all (· == h)

/-- A requesting head is served when at least one channel is grantable to it (R63). -/
def State.served (s : State) (h : HeadId) : Bool := s.requesting h && allChannels.any fun c => s.grantable c h

/-- The heads in head order with wrap, from the one next to the pointer to the pointer's own (R64). -/
def searchOrder (ptr : HeadId) : List HeadId := allHeads.map fun i => ptr + 1 + i

def firstAfter (ptr : HeadId) (p : HeadId → Bool) : Option HeadId := (searchOrder ptr).find? p

/-- The first served requesting head of a class after a pointer. -/
def State.nextOf (s : State) (cls : HeadClass) (ptr : HeadId) : Option HeadId :=
  firstAfter ptr fun h => s.served h && (s.head h).cls == cls

/-- The candidate a naming finds, with the arbiter as it then stands (R64): step 1, the low turn; step 2, the HIGH
round-robin, whose wrap sets the low-turn flag; step 3, the LOW round-robin. -/
def State.naming (s : State) : Option Arbiter :=
  let a := s.arbiter
  match (if a.lowTurn then s.nextOf .low a.lowPtr else none) with
  | some h => some { a with candidate := some h, lowPtr := h, lowTurn := false }
  | none => match s.nextOf .high a.highPtr with
    | some h => some { a with candidate := some h, highPtr := h, lowTurn := a.lowTurn || decide (h ≤ a.highPtr) }
    | none => match s.nextOf .low a.lowPtr with
      | some h => some { a with candidate := some h, lowPtr := h }
      | none => none

/-- A naming, when no candidate is named and a served requesting head exists (R64). -/
def State.nameCandidate (s : State) : State :=
  match s.arbiter.candidate with
  | some _ => s
  | none => match s.naming with
    | some a => s.setArbiter a
    | none => s

/-- A candidate that stops requesting is dropped; the pointers and the low-turn flag stay (R65). -/
def State.dropCandidate (s : State) : State :=
  match s.arbiter.candidate with
  | some h => if s.requesting h then s else s.modArbiter fun a => { a with candidate := none }
  | none => s

/-- The candidate dropped when it is a head of a set. -/
def State.dropCandidateIf (s : State) (which : HeadId → Bool) : State :=
  if s.arbiter.candidate.any which then s.modArbiter fun a => { a with candidate := none } else s

/-- The channel a grant takes: a grantable one parked on the candidate; else the lowest unparked; else the lowest
parked elsewhere (R67). -/
def State.chooseChannel (s : State) (h : HeadId) : Option ChannelId :=
  let ok := allChannels.filter fun c => s.grantable c h
  match ok.find? fun c => (s.chan c).parked == some h with
  | some c => some c
  | none => match ok.find? fun c => (s.chan c).parked.isNone with
    | some c => some c
    | none => ok.head?

/-- What a grant works on: the candidate and its front joint, and the channel chosen. -/
structure GrantPlan where
  head : HeadId
  channel : ChannelId
  lane : Lane
  slot : SlotId
  index : Nat
  joint : Joint
deriving DecidableEq, Repr

/-- The grant condition of R66, with the channel of R67: the candidate is requesting, a channel is grantable to it, and
committed power plus the peak power is at or below the budget. -/
def State.grantPlan (s : State) : Option GrantPlan :=
  match s.arbiter.candidate with
  | none => none
  | some h => match s.frontOf h with
    | none => none
    | some (l, k, _, i, j) => match s.chooseChannel h with
      | none => none
      | some c =>
        if s.requesting h && decide (s.arbiter.committed + (s.recipe j.recipe).peak ≤ s.arbiter.budget * 10) then
          some { head := h, channel := c, lane := l, slot := k, index := i, joint := j }
        else none

end Sys2Proof.Machine
end

