-- ==== Sys2Proof/Machine/OrderOps.lean ====
section
/-! DEFINITION. What the Order Managers do inside the commands: fronts, NEAR_DONE, completion and activation, attempt
results under the lane policy, health-flag skips (chapters 1, 3 and 5). -/

namespace Sys2Proof.Machine

/-! ## Fronts (R9) -/

/-- The joint that has become the front of its head leaves PENDING: READY without a cue flag; with one, READY when the
head's cue latch is set, which it consumes, and CUE_WAIT otherwise (R9, R87). -/
def State.frontArrival (s : State) (l : Lane) (h : HeadId) : State :=
  match s.active l with
  | none => s
  | some (k, o) => match o.front h with
    | none => s
    | some (i, j) =>
      if j.state = .pending then
        if j.cue then
          if (s.head h).cueLatch then
            (s.modJoint l k i fun x => { x with state := .ready }).modHead h fun r => { r with cueLatch := false }
          else s.modJoint l k i fun x => { x with state := .cueWait }
        else s.modJoint l k i fun x => { x with state := .ready }
      else s

/-! ## Near-done (R16) -/

/-- ⌈threshold × joint count ÷ 16⌉. -/
def nearDoneCount (threshold joints : Nat) : Nat := (threshold * joints + 15) / 16

/-- The near-done test of the active order. -/
def State.nearDoneTest (s : State) (l : Lane) : State :=
  match s.active l with
  | none => s
  | some (k, o) =>
    if 0 < (s.om l).threshold ∧ o.nearDone = false ∧ nearDoneCount (s.om l).threshold o.joints.length ≤ o.outcomeCount then
      (s.modOrder l k fun x => { x with nearDone := true }).post (lanePort l) .nearDone (orderContext l k o)
    else s

/-! ## Completion (R11, R12) -/

/-- The completion kind by the order's flags (R11). -/
def Order.kind (o : Order) : CompletionKind :=
  if o.abort then .aborted else if o.discard then .discarded else if o.late then .late else .normal

/-- The completion record of an order (R118), with its type code (R39, log entry 30). A joint without an outcome cannot
stand in one. -/
def State.completionRecord (s : State) (l : Lane) (k : SlotId) (o : Order) (kind : CompletionKind) : CompletionRecord :=
  { lane := l, slot := k, tag := o.tag, code := o.code, kind := kind, proof := o.proof, time := s.now,
    joints := o.joints.map fun j => (j.outcome.getD .notRun, j.attempts) }

/-- The slot becomes FREE, the references are removed, ORDER_DONE and SLOT_FREE are posted (R12 steps 3 to 6; R21
steps 3 to 5). -/
def State.freeSlot (s : State) (l : Lane) (k : SlotId) (o : Order) : State :=
  (((s.setSlot l k none).dropRefs o.recipes).post (lanePort l) .orderDone (orderContext l k o)).post
    (lanePort l) .slotFree (slotContext l k)

/-- Steps 1 to 6 of R12 for the active order: the record into its reservation, the timer stopped, the slot freed, the
halted-joint list gone with the order. -/
def State.finishOrder (s : State) (l : Lane) (k : SlotId) (o : Order) (kind : CompletionKind) : State :=
  let s1 := s.writeRecord l (.completion (s.completionRecord l k o kind))
  let s2 := (s1.modOm l fun om => { om with deadline := none, halted := [] }).reportHalted l false
  s2.freeSlot l k o

/-! ## Activation (R7, R8) -/

/-- The order the lane can activate: its oldest POSTED order, when the four conditions of R7 hold. -/
def State.activatable (s : State) (l : Lane) : Option (SlotId × Order) :=
  if (s.active l).isNone && decide (0 < (s.om l).released) && s.working then
    match s.oldestPosted l with
    | some (k, o) => if o.recordSize ≤ (s.ring l).free then some (k, o) else none
    | none => none
  else none

/-- Step 5 of R8: a joint whose head carries a health flag takes SKIPPED_HEAD. -/
def State.skipFlagged (s : State) (o : Order) : Order :=
  { o with joints := o.joints.map fun j => if (s.head j.head).health.any then j.giveOutcome .skippedHead else j }

/-- Steps 1 to 7 of R8. -/
def State.activate (s : State) (l : Lane) (k : SlotId) (o : Order) : State :=
  let s1 := s.reserve l o.recordSize
  let s2 := s1.modOm l fun om =>
    { om with released := om.released - 1, deadline := if o.deadline = 0 then none else some o.deadline }
  let s3 := s2.setSlot l k (some { s.skipFlagged o with state := .running })
  (allHeads.foldl (fun t h => t.frontArrival l h) s3).nearDoneTest l

/-- Activation of the oldest released orders until one stays active or the conditions fail; an order whose joints are
all skipped at activation completes NORMAL at once (R8), and the next is tried (R12 step 7). A lane has at most four
POSTED orders, so four rounds are all there can be. -/
def activationRounds : Nat → Lane → State → State
  | 0, _, s => s
  | n + 1, l, s =>
    match s.activatable l with
    | none => s
    | some (k, o) =>
      let s1 := s.activate l k o
      match s1.active l with
      | none => s1
      | some (k1, o1) =>
        if o1.allDone then activationRounds n l (s1.finishOrder l k1 o1 o1.kind) else s1

def State.tryActivation (s : State) (l : Lane) : State := activationRounds 4 l s

/-- The completion check of R11 with the completion of R12. The candidate is judged before the next order activates
(log entry 16). -/
def State.completionCheck (s : State) (l : Lane) : State :=
  match s.active l with
  | none => s
  | some (k, o) =>
    if o.allDone then ((s.finishOrder l k o o.kind).dropCandidate).tryActivation l else s

/-! ## The halted-joint list (R106) -/

/-- An order whose list has become empty leaves HALTED (R106, R165). -/
def State.leaveHalted (s : State) (l : Lane) (k : SlotId) : State :=
  if (s.om l).halted.isEmpty then
    match s.order l k with
    | some o =>
      if o.state = .halted then (s.modOrder l k fun x => { x with state := .running }).reportHalted l false else s
    | none => s
  else s

/-- The halted-joint list emptied at once. -/
def State.clearHalted (s : State) (l : Lane) (k : SlotId) : State :=
  (s.modOm l fun om => { om with halted := [] }).leaveHalted l k

/-- Every joint of an order changed. -/
def State.mapJoints (s : State) (l : Lane) (k : SlotId) (f : Joint → Joint) : State :=
  s.modOrder l k fun o => { o with joints := o.joints.map f }

/-! ## Health-flag skips (R51, R52) -/

/-- The head has a joint of the order in TRANSFER or HEATING. -/
def Order.headInAttempt (o : Order) (h : HeadId) : Bool := o.joints.any fun j => j.head == h && j.inAttempt

/-- The indices of the halted-joint list whose joints are on a head removed. -/
def Order.withoutHead (o : Order) (h : HeadId) (halted : List Nat) : List Nat :=
  halted.filter fun i => match o.joints[i]? with
    | some j => j.head != h
    | none => true

/-- The Order Manager's part of R52: with no attempt of the head under way, every joint of the head without an outcome
takes SKIPPED_HEAD; then the NEAR_DONE test and the completion check. An attempt under way is brought to its end first
(log entry 14). -/
def State.skipHead (s : State) (l : Lane) (h : HeadId) : State :=
  match s.active l with
  | none => s
  | some (k, o) =>
    if (o.front h).isSome && !o.headInAttempt h then
      let s1 := s.mapJoints l k fun j =>
        if j.head = h ∧ j.outcome = none then j.giveOutcome .skippedHead else j
      let s2 := (s1.modOm l fun om => { om with halted := o.withoutHead h om.halted }).leaveHalted l k
      (s2.nearDoneTest l).completionCheck l
    else s

/-- The context of HEAD_FAULT: the head, its lane, and the slot and tag of that lane's active order (R51). -/
def State.headContext (s : State) (h : HeadId) : Context :=
  match (s.head h).lane with
  | none => { Context.none with head := some h }
  | some l => match s.active l with
    | some (k, o) => { orderContext l k o with head := some h }
    | none => { Context.none with lane := some l, head := some h }

/-- The attempt in TRANSFER on the head abandoned (R52, R77). -/
def State.abandonMove (s : State) (h : HeadId) : State :=
  match s.movingChannel h with
  | some c => s.modChan c fun r => { r with attempt := r.attempt.map fun a => { a with abandoned := true } }
  | none => s

/-- A health flag set on a head: HEAD_FAULT is posted, the arbiter drops the head's candidacy and stay, a move under
way is abandoned, and the Order Manager skips the head's other joints (R51, R52). A flag already set changes nothing. -/
def State.setHealth (s : State) (h : HeadId) (f : HealthFlag) : State :=
  if (s.head h).health.has f then s
  else
    let s1 := s.modHead h fun r => { r with health := r.health.set f }
    let s2 := s1.post .supervisor .headFault (s.headContext h)
    let s3 := match (s.head h).lane with
      | some l => s2.post (lanePort l) .headFault (s.headContext h)
      | none => s2
    let s4 := ((s3.dropCandidateIf (· == h)).liftStays (· == h)).abandonMove h
    match (s.head h).lane with
    | some l => s4.skipHead l h
    | none => s4

/-! ## Attempt results (R101 to R105) -/

/-- What an attempt result makes of its joint. -/
inductive AfterAttempt where
  | outcome (out : JointOutcome)
  | cooling
  | ready
  | halted
deriving DecidableEq, Repr

/-- The outcome of the same name; SHORTFALL has none of its own and becomes UNDERHEAT (R101, R102). -/
def AttemptResult.outcome : AttemptResult → JointOutcome
  | .good => .good
  | .shortfall => .underheat
  | .overheat => .overheat
  | .noLoad => .noLoad
  | .sensorLost => .sensorLost
  | .faultAbort _ => .faultAbort
  | .aborted => .aborted
  | .interrupted => .interrupted

/-- Step 1 of R101 with R104 and R105: a SHORTFALL that is not final is decided by the lane policy, by the joint's
attempt number and its recipe's reheat allowance. -/
def afterAttempt (policy : Policy) (o : Order) (j : Joint) (r : Recipe) (res : AttemptResult) : AfterAttempt :=
  if res = .shortfall ∧ o.windingDown = false then
    match policy with
    | .autoRetry =>
      if j.attempts < 1 + r.allowance then (if r.postDwell = 0 then .ready else .cooling) else .outcome .underheat
    | .autoSkip => .outcome .underheat
    | .halt => .halted
  else .outcome res.outcome

def Joint.after (j : Joint) : AfterAttempt → Joint
  | .outcome out => j.giveOutcome out
  | .cooling => { j with state := .cooling }
  | .ready => { j with state := .ready }
  | .halted => { j with state := .halted }

/-- Step 2 of R101 and R56: cool-until is the attempt end plus the post-dwell, when the post-dwell is above 0 and the
head may have another attempt in the order: its joint cools or is halted, or another joint of it has no outcome. -/
def State.setCoolUntil (s : State) (l : Lane) (k : SlotId) (h : HeadId) (postDwell : Nat) : State :=
  match s.order l k with
  | none => s
  | some o =>
    if 0 < postDwell ∧ (o.front h).isSome then
      s.modHead h fun r => { r with coolUntil := some (s.now + BitVec.ofNat 32 postDwell) }
    else s

/-- Step 4 of R101 for HALT (R105): the joint joins the tail of the list; if the list was empty the order goes HALTED,
which the Order Manager reports, and the lane's stay reservations are lifted. -/
def State.joinHalted (s : State) (l : Lane) (k : SlotId) (i : Nat) : State :=
  let s1 := s.modOm l fun om => { om with halted := om.halted ++ [i] }
  if (s.om l).halted.isEmpty then
    ((s1.modOrder l k fun o => { o with state := .halted }).reportHalted l true).liftStays (s.ofLane l)
  else s1

/-- The result sets a health flag on the head (R101). -/
def AttemptResult.setsFlag : AttemptResult → Option HealthFlag
  | .noLoad => some .openCoil
  | .sensorLost => some .sensorLost
  | .faultAbort .headCoolant => some .coolantLow
  | .faultAbort .inverter => none
  | .faultAbort .matrix => none
  | .good => none
  | .shortfall => none
  | .overheat => none
  | .aborted => none
  | .interrupted => none

/-- The Order Manager takes an attempt result, by the four steps of R101. The model's choices: the next joint reaches the
front by R9 and R101 before a health flag acts on it, against the latch in the example of chapter 3 (log entry 12), and
the ABORTED outcome that an abandoned move of an aborted order takes here is an attempt result, so the near-done test of
R16 is made (log entry 13). -/
def State.takeResult (s : State) (a : Attempt) (res : AttemptResult) : State :=
  match s.order a.lane a.slot with
  | none => s
  | some o => match o.joints[a.joint]? with
    | none => s
    | some j =>
      let next := afterAttempt (s.om a.lane).policy o j (s.recipe a.recipe) res
      let s1 := s.modJoint a.lane a.slot a.joint fun x => x.after next
      let s2 := s1.setCoolUntil a.lane a.slot a.head (s.recipe a.recipe).postDwell
      let s3 := s2.frontArrival a.lane a.head
      let s4 := if next = .halted then s3.joinHalted a.lane a.slot a.joint else s3
      (s4.nearDoneTest a.lane).completionCheck a.lane

/-! ## Interrupted completion (R22) -/

/-- The outcome of a joint at interrupted completion. -/
def Joint.interrupt (j : Joint) : Joint :=
  match j.outcome with
  | some _ => j
  | none => if 0 < j.attempts then j.giveOutcome .interrupted else j.giveOutcome .notRun

/-- The lane's active order completes INTERRUPTED and the released count becomes 0; activation is not tried (R22). -/
def State.interruptLane (s : State) (l : Lane) : State :=
  let s1 := match s.active l with
    | none => s
    | some (k, o) => s.finishOrder l k { o with joints := o.joints.map Joint.interrupt } .interrupted
  s1.modOm l fun om => { om with released := 0 }

end Sys2Proof.Machine
end

