-- ==== Sys2Proof/Machine/ChannelOps.lean ====
section
/-! DEFINITION. The Channel Controllers and the grant: segments, the end of an attempt, stay reservations, the grant and
the arbitration that closes an event (chapters 4 and 5). -/

namespace Sys2Proof.Machine

/-! ## Segments (R88 to R94) -/

/-- The segment a channel is running. -/
def State.segmentOf (s : State) (c : ChannelId) : Option Segment :=
  match (s.chan c).attempt with
  | none => none
  | some a => match (s.chan c).heat with
    | none => none
    | some w => (s.recipe a.recipe).segments[w.segment - 1]?

/-- The name of an attempt, as the module is given it (R90 step 4, log entry 19). -/
def Attempt.name (a : Attempt) : AttemptName :=
  { lane := a.lane, slot := a.slot, joint := a.joint, head := a.head, recipe := a.recipe, number := a.number,
    serial := a.serial }

/-- What a channel module is given with an energy target (R90 step 4): the target, the attempt and the segment index. -/
structure EnergyTask where
  attempt : AttemptName
  segment : Nat
  target : Nat
deriving DecidableEq, Repr

/-- The energy task the module of a channel has: that of the running segment, where it has an energy target (R90). -/
def State.energyTask (s : State) (c : ChannelId) : Option EnergyTask :=
  match (s.chan c).attempt with
  | none => none
  | some a => match (s.chan c).heat with
    | none => none
    | some w => match s.segmentOf c with
      | none => none
      | some g => g.energyTarget.map fun t => { attempt := a.name, segment := w.segment, target := t }

/-- The start of segment n, counted from 1 (R90): the index, the start time, from which the module counts the segment's
energy (step 3), and the segment timer. The power and the energy task follow from them (State.moduleDrive). -/
def State.startSegment (s : State) (c : ChannelId) (n : Nat) : State :=
  match (s.chan c).attempt with
  | none => s
  | some a => match (s.recipe a.recipe).segments[n - 1]? with
    | none => s
    | some g =>
      let started (w : Heating) : Heating := { w with segment := n, segTimer := g.maxTime, segStart := s.now }
      s.modChan c fun r => { r with heat := r.heat.map started }

/-- A head that goes heating with its latest temperature absent and its sensor timer stopped starts the timer (R48). -/
def HeadRec.goHeating (r : HeadRec) : HeadRec :=
  if r.temp = none ∧ r.sensorTimer = none then { r with sensorTimer := some Config.sensorTimeout } else r

/-- The working state at entry to HEATING (R88, R89 step 1). -/
def Heating.fresh (now : Time) : Heating :=
  { segment := 0, segTimer := 0, segStart := now, energy := 0, peakTemp := 0, start := now, entries := [] }

/-- A channel enters HEATING for its attempt (R89). -/
def State.enterHeating (s : State) (c : ChannelId) : State :=
  match (s.chan c).attempt with
  | none => s
  | some a =>
    let s1 := s.modChan c fun r => { r with state := .heating, moveTimer := none, heat := some (Heating.fresh s.now) }
    let s2 := s1.modJoint a.lane a.slot a.joint fun j => { j with state := .heating }
    (s2.modHead a.head HeadRec.goHeating).startSegment c 1

/-- The elapsed ms of a segment that ends: its maximum time for TIME, else counted from its start (R94, R96). -/
def State.elapsedOf (s : State) (g : Segment) (w : Heating) (reason : EndReason) : Nat :=
  if reason = .time then g.maxTime else s.since w.segStart

/-- The running segment ends: its entry is added and its metered energy joins the attempt energy (R94 steps 1 and 2;
R96, R97, R99 for CUT). -/
def State.recordSegment (s : State) (c : ChannelId) (reason : EndReason) : State :=
  match s.segmentOf c with
  | none => s
  | some g =>
    let ended (w : Heating) : Heating :=
      { w with
        energy := w.energy + meteredEnergy s.draws g reason
        entries := w.entries ++ [{ reason := reason, elapsed := s.elapsedOf g w reason }] }
    { s.modChan c fun r => { r with heat := r.heat.map ended } with draws := s.draws + 1 }

/-! ## The end of an attempt (R79, R80) -/

/-- The joint record of an attempt (R117). The model's choice (log entry 31): an attempt that never heated, for which the
manual gives heating time 0 and no entry, has energy 0 and peak temperature 0. -/
def State.jointRecord (s : State) (c : ChannelId) (a : Attempt) (o : Order) (res : AttemptResult) : JointRecord :=
  let w := (s.chan c).heat
  { lane := a.lane, slot := a.slot, tag := o.tag, joint := a.joint, head := a.head, channel := c, recipe := a.recipe,
    number := a.number, result := res,
    energy := (w.map (·.energy)).getD 0,
    peakTemp := (w.map (·.peakTemp)).getD 0,
    heatTime := (w.map fun (x : Heating) => s.since x.start).getD 0,
    proof := a.proof, time := s.now,
    places := (s.recipe a.recipe).segments.length,
    entries := (w.map (·.entries)).getD [] }

/-- Step 2 of R79 with R122: the joint record is written into its reservation, or the reservation is returned where the
discard flag is set. -/
def State.recordAttempt (s : State) (c : ChannelId) (a : Attempt) (res : AttemptResult) : State :=
  match s.order a.lane a.slot with
  | some o =>
    if o.discard then s.unreserve a.lane (s.recipe a.recipe).recordSize
    else s.writeRecord a.lane (.joint (s.jointRecord c a o res))
  | none => s.unreserve a.lane (s.recipe a.recipe).recordSize

/-- The attempt's peak power leaves committed power (R70). -/
def State.release (s : State) (a : Attempt) : State :=
  s.modArbiter fun x => { x with committed := x.committed - a.peak }

/-- The channel goes IDLE, parked where it is, with no attempt (R79 step 4). -/
def ChannelRec.clear (r : ChannelRec) : ChannelRec :=
  { r with state := .idle, attempt := none, moveTimer := none, heat := none }

/-- The channel goes FAULTED, unparked, with no stay reservation (R73, R80). -/
def State.faultChannel (s : State) (c : ChannelId) : State :=
  ((s.modChan c fun r => { r.clear with state := .faulted }).setParked c none).setStay c none

/-- Where a channel goes at an attempt end: IDLE (R79) or FAULTED (R80). -/
inductive ChannelEnd where
  | idle
  | faulted
deriving DecidableEq, Repr

/-- Steps 2 to 4 of R79 with the departure of R80. -/
def State.closeAttempt (s : State) (c : ChannelId) (res : AttemptResult) (dest : ChannelEnd) : State :=
  match (s.chan c).attempt with
  | none => s
  | some a =>
    let s1 := ((s.recordAttempt c a res).release a).modChan c ChannelRec.clear
    match dest with
    | .idle => s1
    | .faulted => s1.faultChannel c

/-- The conditions of R72 for a stay reservation after the attempt has ended and its result been taken. -/
def State.stayHolds (s : State) (c : ChannelId) (a : Attempt) : Bool :=
  (s.head a.head).stay && (s.chan c).state == .idle && (s.chan c).parked == some a.head &&
    (s.recipe a.recipe).postDwell == 0 && !(s.head a.head).health.any &&
    match s.active a.lane with
    | none => false
    | some (_, o) => o.state == .running && !o.windingDown && match o.front a.head with
      | none => false
      | some (_, j) => j.state == .ready

def State.judgeStay (s : State) (c : ChannelId) (a : Attempt) : State :=
  if s.stayHolds c a then s.setStay c (some a.head) else s

/-- The order of the slot is the lane's active order. -/
def State.isActive (s : State) (l : Lane) (k : SlotId) : Bool := (s.active l).any fun x => x.1 == k

/-- The skip that a health flag owes once the attempt has ended (R52, log entry 14): the head carries a flag, or its move
was abandoned, for a flag that may have been cleared since (R53). It falls on the attempt's own order alone. -/
def State.skipIfFlagged (s : State) (a : Attempt) : State :=
  if ((s.head a.head).health.any || a.abandoned) && s.isActive a.lane a.slot then s.skipHead a.lane a.head else s

/-- An attempt ends on a channel and its result is taken (R79, R101), with the health flag the result sets (R101) and
the stay reservation (R72). -/
def State.endAttempt (s : State) (c : ChannelId) (res : AttemptResult) (dest : ChannelEnd) : State :=
  match (s.chan c).attempt with
  | none => s
  | some a =>
    let s1 := (s.closeAttempt c res dest).takeResult a res
    let s2 := match res.setsFlag with
      | some f => s1.setHealth a.head f
      | none => s1
    (s2.skipIfFlagged a).judgeStay c a

/-- An attempt in HEATING cut short: the CUT entry, then the end (R96 to R99). -/
def State.cutAttempt (s : State) (c : ChannelId) (res : AttemptResult) (dest : ChannelEnd) : State :=
  (s.recordSegment c .cut).endAttempt c res dest

/-- The segment has a target that is judged in the cabinet mode (R94, R112). -/
def State.judged (s : State) (g : Segment) : Bool :=
  g.energyTarget.isSome || (s.mode != .proof && g.tempTarget.isSome)

/-- A segment ends on TEMP, ENERGY or TIME (R94). -/
def State.segmentEnd (s : State) (c : ChannelId) (reason : EndReason) : State :=
  match s.segmentOf c with
  | none => s
  | some g => match (s.chan c).attempt with
    | none => s
    | some a => match (s.chan c).heat with
      | none => s
      | some w =>
        let s1 := s.recordSegment c reason
        if reason = .time ∧ g.required = true ∧ s.judged g = true then s1.endAttempt c .shortfall .idle
        else if (s.recipe a.recipe).segments.length ≤ w.segment then s1.endAttempt c .good .idle
        else s1.startSegment c (w.segment + 1)

/-! ## The grant (R68, R75) -/

/-- The attempt a grant creates. -/
def State.newAttempt (s : State) (p : GrantPlan) : Attempt :=
  { lane := p.lane, slot := p.slot, joint := p.index, head := p.head, recipe := p.joint.recipe,
    number := p.joint.attempts + 1, peak := (s.recipe p.joint.recipe).peak, abandoned := false,
    proof := s.mode == .proof, serial := s.grants }

/-- The transfer time fixed at CABINET_SETUP (R75). -/
def State.transferTime (s : State) : Nat := (s.cabinet.setup.map (·.transfer)).getD 0

/-- Steps 1 to 7 of R68, with the proof mark of R118; the grants are counted (log entry 19). -/
def State.grant (s : State) (p : GrantPlan) : State :=
  let a := s.newAttempt p
  let parkedHere := (s.chan p.channel).parked == some p.head
  let s1 := s.reserve p.lane (s.recipe p.joint.recipe).recordSize
  let s2 := s1.modArbiter fun x => { x with committed := x.committed + a.peak }
  let s3 := s2.modJoint p.lane p.slot p.index fun j => { j with attempts := j.attempts + 1, state := .transfer }
  let s4 := s3.modOrder p.lane p.slot fun o => { o with proof := o.proof || a.proof }
  let s5 := s4.modChan p.channel fun r =>
    { r with state := .transfer, attempt := some a, moveTimer := some s.transferTime }
  let s6 := (s5.setParked p.channel (some p.head)).setStay p.channel none
  let s7 := if parkedHere then s6.enterHeating p.channel else s6
  (s7.modArbiter fun x => { x with candidate := none }).countGrant

/-! ## Arbitration (R62, R64 to R66) -/

/-- Drop, name and grant until no grant is made: each grant takes a channel, so seven rounds are all there can be. -/
def arbitrateRounds : Nat → State → State
  | 0, s => s
  | n + 1, s =>
    let s1 := s.dropCandidate.nameCandidate
    match s1.grantPlan with
    | some p => arbitrateRounds n (s1.grant p)
    | none => s1

/-- The arbiter's part at the end of an event (log entry 4). -/
def State.arbitrate (s : State) : State := arbitrateRounds 7 s

end Sys2Proof.Machine
end

