-- ==== Sys2Proof/Machine/FaultOps.lean ====
section
/-! DEFINITION. Fault Control: fault entries, the error logs, containment, the quench (chapter 7, R80, R81). -/

namespace Sys2Proof.Machine

/-- The fault entry of a report (R132): the channel it names, the attempt it reaches. -/
def State.faultEntry (s : State) (cause : CauseClass) (channel : Option ChannelId) (a : Option Attempt) : FaultEntry :=
  { cause := cause, channel := channel,
    head := a.map (·.head), lane := a.map (·.lane), slot := a.map (·.slot),
    tag := match a with
      | none => none
      | some x => (s.order x.lane x.slot).map (·.tag),
    joint := a.map (·.joint), time := s.now }

/-- The context of QUENCH and CONTAIN_ERROR on EV-S (R135, R139). -/
def FaultEntry.context (e : FaultEntry) : Context := { lane := e.lane, slot := e.slot, tag := e.tag, head := e.head }

/-- The quench form of a lane log (R143). -/
def FaultEntry.quenchForm (e : FaultEntry) (l : Lane) (k : SlotId) (o : Order) : FaultEntry :=
  { cause := e.cause, channel := none, head := none, lane := some l, slot := some k, tag := some o.tag, joint := none,
    time := e.time }

/-- What fills an invalid lane log: the entry where it carries the lane; else, for a fault whose response quenches, the
quench form where the lane has an active order (R143). -/
def State.laneFill (s : State) (e : FaultEntry) (quenching : Bool) (l : Lane) : Option FaultEntry :=
  if e.lane = some l then some e
  else if quenching then
    match s.active l with
    | some (k, o) => some (e.quenchForm l k o)
    | none => none
  else none

/-- A log takes an entry only where it is invalid (R143). -/
def fillLog (log fill : Option FaultEntry) : Option FaultEntry :=
  match log with
  | some e => some e
  | none => fill

/-- The logs filled by a fault (R143). -/
def State.fillLogs (s : State) (e : FaultEntry) (quenching : Bool) : State :=
  s.setFaults { s.faults with
    cabinetLog := fillLog s.faults.cabinetLog (some e)
    laneLogs := { a := fillLog s.faults.laneLogs.a (s.laneFill e quenching .a)
                  b := fillLog s.faults.laneLogs.b (s.laneFill e quenching .b) } }

/-- At least CONTAINED (R144). -/
def Severity.contain : Severity → Severity
  | .clear => .contained
  | .contained => .contained
  | .quench => .quench

/-- Fault Control's part of a contained fault: the logs, the severity, CONTAIN_ERROR (R135). -/
def State.containError (s : State) (e : FaultEntry) : State :=
  let s1 := s.fillLogs e false
  (s1.setFaults { s1.faults with severity := s1.faults.severity.contain }).post .supervisor .containError e.context

/-! ## Quench (R81, R139) -/

/-- The attempt of a channel ends INTERRUPTED: cut if it was HEATING, recorded, released; its joint is settled by the
interrupted completion (R22, R99). -/
def State.interruptAttempt (s : State) (c : ChannelId) : State :=
  let s1 := if (s.chan c).state = .heating then s.recordSegment c .cut else s
  s1.closeAttempt c .interrupted .idle

/-- R81: an installed channel goes STOPPED, unparked, its fault-held mark telling whether it was FAULTED. -/
def State.stopChannel (s : State) (c : ChannelId) : State :=
  let s1 := s.interruptAttempt c
  if (s.chan c).state = .offline then s1
  else
    let held := (s.chan c).state == .faulted
    (s1.modChan c fun r => { r.clear with state := .stopped, faultHeld := held }).setParked c none

/-- Committed power 0, no candidate, no stay reservation (R81). -/
def Arbiter.empty (a : Arbiter) : Arbiter :=
  { a with committed := 0, candidate := none, stays := Vector.replicate 6 none }

/-- The context of QUENCH on a lane port: the lane, with the slot and tag of the order just interrupted (R139). -/
def State.quenchContext (s : State) (l : Lane) : Context :=
  match s.active l with
  | some (k, o) => orderContext l k o
  | none => { Context.none with lane := some l }

/-- QUENCHED: no settling timer, no dummy load (R139, R161). -/
def Cabinet.quench (c : Cabinet) : Cabinet := { c with mode := .quenched, settlingTimer := none, dummyLoad := false }

/-- Every channel and both lanes stopped, in channel order and then lane order (R139; log entry 28). -/
def State.stopWork (s : State) : State :=
  let s1 := (allChannels.foldl State.stopChannel s).modArbiter Arbiter.empty
  (s1.interruptLane .a).interruptLane .b

/-- A quench in SETTLING, LIVE or PROOF (R139). -/
def State.quench (s : State) (e : FaultEntry) : State :=
  let s1 := (s.fillLogs e true).stopWork
  let s2 := (s1.setCabinet s1.cabinet.quench).setFaults { s1.faults with severity := .quench }
  ((s2.post .laneA .quench (s.quenchContext .a)).post .laneB .quench (s.quenchContext .b)).post
    .supervisor .quench e.context

/-- A fault under the QUENCH response: a quench, or in QUENCHED a further quench cause, which only fills empty logs
(R135, R141). In UNCONFIGURED no fault is taken (R132). -/
def State.quenchCause (s : State) (e : FaultEntry) : State :=
  match s.mode with
  | .unconfigured => s
  | .settling => s.quench e
  | .live => s.quench e
  | .proof => s.quench e
  | .quenched => s.fillLogs e true

/-! ## INVERTER and MATRIX faults (R80, R136) -/

/-- A contained INVERTER or MATRIX fault acts on the named channel by its state (R80). -/
def State.containChannel (s : State) (cause : AbortCause) (c : ChannelId) : State :=
  match (s.chan c).state with
  | .offline => s
  | .idle => s.faultChannel c
  | .transfer =>
    if (s.chan c).attempt.isSome then s.endAttempt c (.faultAbort cause) .faulted else s.faultChannel c
  | .heating => s.cutAttempt c (.faultAbort cause) .faulted
  | .faulted => s
  | .stopped => s.modChan c fun r => { r with faultHeld := true }

/-- A fault on a channel is taken under the response of its class; before setup it is not taken (R132, R135). -/
def State.channelFault (s : State) (cls : CauseClass) (cause : AbortCause) (resp : Response) (c : ChannelId) : State :=
  if s.mode = .unconfigured then s
  else
    let e := s.faultEntry cls (some c) (s.chan c).attempt
    match resp with
    | .quench => s.quenchCause e
    | .contain => (s.containChannel cause c).containError e

/-- An INVERTER fault. -/
def State.inverterFault (s : State) (c : ChannelId) : State :=
  s.channelFault .inverter .inverter s.faults.inverter c

/-- A MATRIX fault (log entry 18). -/
def State.matrixFault (s : State) (c : ChannelId) : State := s.channelFault .matrix .matrix s.faults.matrix c

/-! ## HEAD_COOLANT (R98, R137) -/

/-- A HEAD_COOLANT fault on a head heating on a channel: contained, the attempt ends and COOLANT_LOW follows from its
result; under QUENCH the cabinet is quenched first and COOLANT_LOW is set then (R50). -/
def State.headCoolantFault (s : State) (h : HeadId) (c : ChannelId) : State :=
  let e := s.faultEntry .headCoolant (some c) (s.chan c).attempt
  match s.faults.headCoolant with
  | .contain => (s.cutAttempt c (.faultAbort .headCoolant) .idle).containError e
  | .quench => (s.quenchCause e).setHealth h .coolantLow

/-! ## Cabinet inputs (R133) -/

def inputClass : CabinetInput → CauseClass
  | .coolantFlow => .cabinetCoolant
  | .busCurrent => .busOvercurrent
  | .groundMonitor => .groundFault

/-- The input stands in its alarm state. -/
def FaultControl.alarm (f : FaultControl) : CabinetInput → Bool
  | .coolantFlow => f.coolantFlow
  | .busCurrent => f.busCurrent
  | .groundMonitor => f.groundMonitor

def FaultControl.setAlarm (f : FaultControl) (i : CabinetInput) (alarm : Bool) : FaultControl :=
  match i with
  | .coolantFlow => { f with coolantFlow := alarm }
  | .busCurrent => { f with busCurrent := alarm }
  | .groundMonitor => { f with groundMonitor := alarm }

/-- The quench cause of an input's class. -/
def State.inputCause (s : State) (i : CabinetInput) : State := s.quenchCause (s.faultEntry (inputClass i) none none)

/-- An input standing in alarm at an entry to SETTLING is a quench cause (R133). -/
def State.standing (s : State) (i : CabinetInput) : State := if s.faults.alarm i then s.inputCause i else s

/-- The inputs in the order of R133. -/
def State.standingAlarms (s : State) : State :=
  ((s.standing .coolantFlow).standing .busCurrent).standing .groundMonitor

end Sys2Proof.Machine
end

