-- ==== Sys2Proof/Machine/Frame.lean ====
section
/-! DEFINITION. Frames on a link: the check, the judging of a received frame, the request codes and the byte values of
the answer codes (R173, R174, R176, R178, R181). -/

namespace Sys2Proof.Machine

/-! ## Big-endian fields (R181) -/

def be1 (v : Nat) : List Byte := [BitVec.ofNat 8 v]
def be2 (v : Nat) : List Byte := [BitVec.ofNat 8 (v / 256), BitVec.ofNat 8 v]
def be3 (v : Nat) : List Byte := BitVec.ofNat 8 (v / 65536) :: be2 v
def be4 (v : Nat) : List Byte := BitVec.ofNat 8 (v / 16777216) :: be3 v
def be6 (v : Nat) : List Byte := be2 (v / 4294967296) ++ be4 v
def be8 (v : Nat) : List Byte := be4 (v / 4294967296) ++ be4 v

/-- The number that bytes spell, highest byte first. -/
def beNat (bytes : List Byte) : Nat := bytes.foldl (fun n b => n * 256 + b.toNat) 0

/-! ## The check (R173) -/

/-- One bit of the cyclic redundancy check with the generator x^16 + x^12 + x^5 + 1. -/
def crcBit (c : BitVec 16) : BitVec 16 := if c.msb then (c <<< 1) ^^^ 0x1021#16 else c <<< 1

/-- One byte enters the check, highest bit first. -/
def crcByte (c : BitVec 16) (b : Byte) : BitVec 16 :=
  crcBit (crcBit (crcBit (crcBit (crcBit (crcBit (crcBit (crcBit (c ^^^ (b.setWidth 16 <<< 8)))))))))

/-- The check over bytes: the register starts at all ones, and there is no final inversion. -/
def checkOf (bytes : List Byte) : BitVec 16 := bytes.foldl crcByte 0xFFFF#16

/-- The start mark (R181). -/
def startMark : Byte := 0xC6

/-- A frame around the bytes from the length to the end of the payload: start mark before, check after, high byte
first. -/
def frameOf (body : List Byte) : List Byte := startMark :: (body ++ be2 (checkOf body).toNat)

/-- A request frame (R173). -/
def requestFrame (code tag : Byte) (payload : List Byte) : List Byte :=
  frameOf (be1 (2 + payload.length) ++ [code, tag] ++ payload)

/-! ## Judging a frame that has ended (R174) -/

/-- The number of bytes disagrees with the length byte, or the length is out of range. -/
def badLength (frame : List Byte) : Bool :=
  let len := (frame.getD 1 0).toNat
  decide (frame.length < 6) || decide (len < 2) || decide (252 < len) || decide (frame.length ≠ len + 4)

/-- The check the frame carries differs from the check computed from the length through the last payload byte. -/
def badCheck (frame : List Byte) : Bool :=
  let len := (frame.getD 1 0).toNat
  beNat (frame.drop (len + 2)) != (checkOf ((frame.drop 1).take (len + 1))).toNat

/-- The first test of R174 that fails names the cause; none is a request. -/
def judgeFrame (frame : List Byte) (byteError : Bool) : Option LinkCause :=
  if byteError then some .byteError
  else if frame.head?.any (· ≠ startMark) then some .startMark
  else if badLength frame then some .length
  else if badCheck frame then some .check
  else none

/-! ## Codes (R181) -/

/-- The request codes of the catalogue (R178, R181). -/
def catalogue : List Byte :=
  [0x01, 0x02, 0x03,
   0x10, 0x11, 0x12, 0x13, 0x14, 0x15, 0x16, 0x17,
   0x20, 0x21, 0x22, 0x23, 0x24, 0x25, 0x26,
   0x30, 0x31, 0x32, 0x33, 0x34,
   0x40, 0x41,
   0x50, 0x51, 0x52,
   0x60, 0x61, 0x62, 0x63,
   0x70, 0x71, 0x72]

/-- The byte value of an answer code. -/
def AnswerCode.byte : AnswerCode → Byte
  | .ok => 0x00
  | .badRequest => 0x01
  | .notPermitted => 0x02
  | .badValue => 0x03
  | .unconfigured => 0x04
  | .quenched => 0x05
  | .once => 0x06
  | .noSlot => 0x10
  | .unboundType => 0x11
  | .classUnmapped => 0x12
  | .recipeEmpty => 0x13
  | .headNotLane => 0x14
  | .headInUse => 0x15
  | .inUse => 0x16
  | .duplicateType => 0x17
  | .notHalted => 0x18
  | .noActive => 0x19
  | .active => 0x1A
  | .cueHeld => 0x1B
  | .retryLimit => 0x1C
  | .notReader => 0x20
  | .range => 0x21
  | .ringFull => 0x22
  | .wrongMode => 0x30
  | .busy => 0x31

/-- The answer frame as it stands on the link (R176). -/
def Answer.frame (a : Answer) : List Byte :=
  frameOf (be1 (3 + a.payload.length) ++ [a.request, a.tag, a.code.byte] ++ a.payload)

end Sys2Proof.Machine
end

