-- ==== Sys2Proof/Machine/Layout.lean ====
section
/-! DEFINITION. The layouts of the ring records (R183, R184) and of the answers (R181, R182). -/

namespace Sys2Proof.Machine

def bit (b : Bool) : Nat := if b then 1 else 0

/-! ## Codes -/

def laneNum : Lane → Nat
  | .a => 0
  | .b => 1

/-- One byte, 0xFF when absent (R181). -/
def orAbsent {α : Type} (f : α → Nat) (v : Option α) : List Byte :=
  be1 (match v with
    | some x => f x
    | none => 0xFF)

/-- A two-byte temperature or remaining time, 0xFFFF when absent (R181). -/
def pairOrAbsent (v : Option Nat) : List Byte := be2 (v.getD 0xFFFF)

/-- A four-byte time, 0xFFFFFFFF when none (R181). -/
def timeOrNone (v : Option Time) : List Byte :=
  be4 (match v with
    | some t => t.toNat
    | none => 0xFFFFFFFF)

/-- A two-byte tag, 0 when absent (R181). -/
def tagOrZero (v : Option Word) : List Byte :=
  be2 (match v with
    | some t => t.toNat
    | none => 0)

def EndReason.num : EndReason → Nat
  | .temp => 1
  | .energy => 2
  | .time => 3
  | .cut => 4

/-- The result codes, which carry the cause of a FAULT_ABORT (R183). -/
def AttemptResult.num : AttemptResult → Nat
  | .good => 1
  | .shortfall => 2
  | .overheat => 3
  | .noLoad => 4
  | .sensorLost => 5
  | .faultAbort .inverter => 6
  | .faultAbort .matrix => 7
  | .faultAbort .headCoolant => 8
  | .aborted => 9
  | .interrupted => 10

def CompletionKind.num : CompletionKind → Nat
  | .normal => 0
  | .late => 1
  | .aborted => 2
  | .withdrawn => 3
  | .discarded => 4
  | .interrupted => 5

def JointOutcome.num : JointOutcome → Nat
  | .good => 1
  | .underheat => 2
  | .overheat => 3
  | .noLoad => 4
  | .sensorLost => 5
  | .faultAbort => 6
  | .aborted => 9
  | .interrupted => 10
  | .skippedLate => 11
  | .skippedHead => 12
  | .notRun => 13

def JointState.num : JointState → Nat
  | .pending => 0
  | .cueWait => 1
  | .ready => 2
  | .transfer => 3
  | .heating => 4
  | .cooling => 5
  | .halted => 6
  | .done => 7

def Mode.num : Mode → Nat
  | .unconfigured => 0
  | .settling => 1
  | .live => 2
  | .proof => 3
  | .quenched => 4

def ChannelState.num : ChannelState → Nat
  | .offline => 0
  | .idle => 1
  | .transfer => 2
  | .heating => 3
  | .faulted => 4
  | .stopped => 5

def OrderState.num : OrderState → Nat
  | .posted => 1
  | .running => 2
  | .halted => 3

def LinkCause.num : LinkCause → Nat
  | .check => 1
  | .startMark => 2
  | .length => 3
  | .byteError => 4
  | .overrun => 5

def CauseClass.num : CauseClass → Nat
  | .cabinetCoolant => 0
  | .busOvercurrent => 1
  | .groundFault => 2
  | .inverter => 3
  | .matrix => 4
  | .headCoolant => 5

def Severity.num : Severity → Nat
  | .clear => 0
  | .contained => 1
  | .quench => 2

def Response.num : Response → Nat
  | .quench => 0
  | .contain => 1

def Policy.num : Policy → Nat
  | .autoRetry => 0
  | .autoSkip => 1
  | .halt => 2

def Reader.num : Reader → Nat
  | .lane => 0
  | .supervisor => 1

def coolantNum : CoolantSwitch → Nat
  | .ok => 0
  | .low => 1

/-- The health flags, summed (R181). -/
def Health.num (f : Health) : Nat := bit f.openCoil + 2 * bit f.sensorLost + 4 * bit f.coolantLow

/-! ## Ring records -/

/-- A field of `width` bits of value v at bit position `pos`. -/
def fieldAt (v width pos : Nat) : Nat := v % 2 ^ width * 2 ^ pos

/-- Entry place k: the k-th started segment, or end reason NONE and elapsed 0 (R183). -/
def placeWords (entries : List SegmentEntry) (k : Nat) : List Nat :=
  match entries[k]? with
  | some e => [e.reason.num, e.elapsed]
  | none => [0, 0]

/-- The words of a joint record (R183). -/
def JointRecord.words (r : JointRecord) : List Word :=
  let head : List Nat :=
    [ fieldAt (8 + 2 * r.places) 5 10 + fieldAt (laneNum r.lane) 1 9 + fieldAt r.slot.val 2 7 + fieldAt (bit r.proof) 1 6
        + fieldAt r.number 4 2 + fieldAt (r.heatTime / 65536) 2 0,
      r.tag.toNat,
      fieldAt r.joint 4 12 + fieldAt r.head.val 4 8 + fieldAt r.channel.val 3 5 + fieldAt r.recipe.val 5 0,
      fieldAt r.result.num 4 12 + fieldAt (r.energy / 65536) 1 11 + fieldAt r.peakTemp 11 0,
      r.energy % 65536,
      r.heatTime % 65536,
      r.time.toNat / 65536,
      r.time.toNat % 65536 ]
  (head ++ (List.range r.places).flatMap (placeWords r.entries)).map (BitVec.ofNat 16)

/-- The words of a completion record (R184), which have no place for the type code (log entry 30). -/
def CompletionRecord.words (r : CompletionRecord) : List Word :=
  let head : List Nat :=
    [ 2 ^ 15 + fieldAt (6 + r.joints.length) 5 10 + fieldAt (laneNum r.lane) 1 9 + fieldAt r.slot.val 2 7
        + fieldAt (bit r.proof) 1 6 + fieldAt r.kind.num 3 3,
      r.tag.toNat,
      r.joints.length,
      r.time.toNat / 65536,
      r.time.toNat % 65536,
      0 ]
  (head ++ r.joints.map fun (j : JointOutcome × Nat) => j.1.num * 256 + j.2).map (BitVec.ofNat 16)

def Record.words : Record → List Word
  | .joint r => r.words
  | .completion r => r.words

/-- A word is sent as two bytes, high byte first (R181). -/
def Record.bytes (r : Record) : List Byte := r.words.flatMap fun w => be2 w.toNat

/-! ## Answers (R182) -/

/-- POLL_EVENT answer: the vector reported, its context, and the pending codes after the poll. -/
def pollAnswer (vector : Nat) (c : Context) (codes : List Nat) : List Byte :=
  be1 vector ++ be1 (bit c.lane.isSome + 2 * bit c.slot.isSome + 4 * bit c.tag.isSome + 8 * bit c.head.isSome) ++
    orAbsent laneNum c.lane ++ orAbsent Fin.val c.slot ++ tagOrZero c.tag ++ orAbsent Fin.val c.head ++
    be1 codes.length ++ codes.flatMap be1

/-- READ_RESULTS answer. -/
def resultsAnswer (l : Lane) (r : Ring) (records : List Record) : List Byte :=
  be1 (laneNum l) ++ be2 r.stored ++ be2 r.used ++ be2 r.reserved ++ be1 records.length ++ records.flatMap Record.bytes

/-- ACK_RESULTS answer. -/
def ackAnswer (r : Ring) : List Byte := be2 r.stored ++ be2 r.used ++ be2 r.reserved

/-- A segment of the READ_RECIPE answer, with the presence of its targets in bits 1 and 2. -/
def segmentBytes (g : Segment) : List Byte :=
  be2 g.power ++ be2 g.maxTime ++ be2 (g.tempTarget.getD 0) ++ be2 (g.energyTarget.getD 0) ++
    be1 (bit g.required + 2 * bit g.tempTarget.isSome + 4 * bit g.energyTarget.isSome)

/-- READ_RECIPE answer. -/
def recipeAnswer (r : RecipeId) (e : RecipeEntry) : List Byte :=
  match e.recipe with
  | none => be1 r.val ++ be1 0 ++ be1 e.refs
  | some x =>
    be1 r.val ++ be1 1 ++ be1 e.refs ++ be2 x.overtemp ++ be2 x.postDwell ++ be1 x.allowance ++ be2 x.peak ++
      be1 x.segments.length ++ x.segments.flatMap segmentBytes

/-- The class map entries of a binding, 0xFF for ABSENT. -/
def classMapBytes (b : Binding) : List Byte := (List.finRange 8).flatMap fun i => orAbsent Fin.val (b.classMap.get i)

/-- READ_BINDING answer; the bytes an EMPTY binding leaves unassigned are 0. -/
def bindingAnswer (s : State) (n : BindingId) : List Byte :=
  let body : List Byte := match s.bindings.get n with
    | none => be1 0 ++ be6 0 ++ be8 0
    | some b => be1 1 ++ be6 b.code.toNat ++ classMapBytes b
  be1 n.val ++ body ++ be8 s.family.toNat ++ orAbsent Fin.val s.defaults.a ++ orAbsent Fin.val s.defaults.b

/-- The front joint part of READ_HEAD: slot, index, state and attempt number, or absent. -/
def frontBytes (s : State) (h : HeadId) : List Byte :=
  match s.frontOf h with
  | some (_, k, _, i, j) => be1 k.val ++ be1 i ++ be1 j.state.num ++ be1 j.attempts
  | none => be1 0xFF ++ be1 0 ++ be1 0 ++ be1 0

def headLaneNum : Option Lane → Nat
  | some l => laneNum l
  | none => 2

/-- READ_HEAD answer (R58). -/
def headAnswer (s : State) (h : HeadId) : List Byte :=
  let r := s.head h
  be1 h.val ++ be1 (headLaneNum r.lane) ++ be1 (bit (r.cls == .high) + 2 * bit r.masked + 4 * bit r.stay) ++
    be1 r.anticipation ++ be1 r.health.num ++ pairOrAbsent r.temp ++ be1 (coolantNum r.coolant) ++ be1 (bit r.cueLatch) ++
    pairOrAbsent (s.coolLeft h) ++ orAbsent Fin.val r.connected ++ frontBytes s h

/-- One log of READ_ERROR_LOG: 13 bytes, 0 for an invalid log. -/
def logBytes : Option FaultEntry → List Byte
  | none => List.replicate 13 0
  | some e =>
    be1 e.cause.num ++
      be1 (bit e.channel.isSome + 2 * bit e.head.isSome + 4 * bit e.lane.isSome + 8 * bit e.slot.isSome +
        16 * bit e.tag.isSome + 32 * bit e.joint.isSome) ++
      orAbsent Fin.val e.channel ++ orAbsent Fin.val e.head ++ orAbsent laneNum e.lane ++ orAbsent Fin.val e.slot ++
      tagOrZero e.tag ++ orAbsent id e.joint ++ be4 e.time.toNat

/-- The log validity byte: cabinet 1, lane A 2, lane B 4. -/
def validityNum (f : FaultControl) : Nat :=
  bit f.cabinetLog.isSome + 2 * bit f.laneLogs.a.isSome + 4 * bit f.laneLogs.b.isSome

/-- READ_ERROR_LOG answer (R145). -/
def errorLogAnswer (f : FaultControl) : List Byte :=
  be1 f.severity.num ++ be1 (validityNum f) ++ logBytes f.cabinetLog ++ logBytes f.laneLogs.a ++ logBytes f.laneLogs.b ++
    be1 f.inverter.num ++ be1 f.matrix.num ++ be1 f.headCoolant.num ++
    be1 (bit f.coolantFlow) ++ be1 (bit f.busCurrent) ++ be1 (bit f.groundMonitor)

/-! ### READ_STATUS (R180, R182) -/

/-- Bytes 0-1. The model's choice (log entry 32): the LINK_FAULT flag is 1 when set, 0 when clear. -/
def statusLink (p : PortState) : List Byte :=
  be1 (bit p.linkFault.isSome) ++ be1 (match p.linkFault with
    | some c => c.num
    | none => 0)

/-- Bytes 2-14 (R160). The model's choice (log entry 32): the dummy load selection is 1 when selected, else 0. -/
def statusCabinet (c : Cabinet) : List Byte :=
  let u : Setup := c.setup.getD { channels := 0, ceiling := 0, transfer := 0, settling := 0 }
  be1 c.mode.num ++ be1 u.channels ++ be1 u.ceiling ++ be1 u.transfer ++ be2 u.settling ++
    pairOrAbsent c.settlingTimer ++ timeOrNone c.timeBase ++ be1 (bit c.dummyLoad)

/-- Bytes 15-21 (R84). The model's choice (log entry 32): the low-turn flag is 1 when set, 0 when clear. -/
def statusArbiter (a : Arbiter) : List Byte :=
  be1 a.budget ++ be2 a.committed ++ orAbsent Fin.val a.candidate ++ be1 a.highPtr.val ++ be1 a.lowPtr.val ++
    be1 (bit a.lowTurn)

/-- The attempt part of a channel; without an attempt the named parts are absent and the number 0 (log entry 11). -/
def attemptBytes : Option Attempt → List Byte
  | some a => be1 (laneNum a.lane * 4 + a.slot.val) ++ be1 a.joint ++ be1 a.head.val ++ be1 a.recipe.val ++ be1 a.number
  | none => be1 0xFF ++ be1 0xFF ++ be1 0xFF ++ be1 0xFF ++ be1 0

/-- The heating part of a channel (R113): segment index, time left on the segment timer, attempt energy. -/
def heatBytes : Option Heating → List Byte
  | some w => be1 w.segment ++ be2 w.segTimer ++ be3 w.energy
  | none => be1 0 ++ be2 0xFFFF ++ be3 0

/-- Fifteen bytes of bytes 22-111 (R84, R113). -/
def statusChannel (s : State) (c : ChannelId) : List Byte :=
  let r := s.chan c
  be1 r.state.num ++ orAbsent Fin.val r.parked ++ orAbsent Fin.val (s.stay c) ++
    be1 (bit r.attempt.isSome + 2 * bit (r.attempt.any (·.abandoned)) +
      4 * bit (r.faultHeld && r.state == .stopped)) ++
    attemptBytes r.attempt ++ heatBytes r.heat

/-- Ten bytes of a slot (R24). -/
def slotBytes : Option Order → List Byte
  | some o => be1 o.state.num ++ be2 o.tag.toNat ++ be6 o.code.toNat ++ be1 o.joints.length
  | none => List.replicate 10 0

def orderFlags (o : Order) : Nat := bit o.late + 2 * bit o.discard + 4 * bit o.abort

/-- Fifty bytes of bytes 112-211 (R24). The model's choice (log entry 11): without an active order the flags byte and the
outcome count are 0. -/
def statusLane (s : State) (l : Lane) : List Byte :=
  let om := s.om l
  let act := s.active l
  allSlots.flatMap (fun k => slotBytes (s.order l k)) ++ be1 om.postPtr.val ++ be1 om.released ++
    orAbsent (fun x : SlotId × Order => x.1.val) act ++ be1 om.halted.length ++
    be1 (match act with
      | some (_, o) => orderFlags o
      | none => 0) ++
    be1 (match act with
      | some (_, o) => o.outcomeCount
      | none => 0) ++
    pairOrAbsent om.deadline ++ be1 om.policy.num ++ be1 om.threshold

/-- Nine bytes of bytes 212-229 (R130). -/
def statusRing (r : Ring) : List Byte := be2 r.stored ++ be2 r.used ++ be2 r.reserved ++ be2 r.free ++ be1 r.reader.num

/-- Bytes 232-243 (R170): vector, pending count, nine code places, marks. -/
def statusUnit (s : State) (p : Port) : List Byte :=
  let codes := s.pendingCodes p
  be1 (s.vector p) ++ be1 codes.length ++ codes.flatMap be1 ++ List.replicate (9 - codes.length) 0 ++
    be1 (bit (s.unit p).attention + 2 * bit (s.attentionLine p) +
      4 * bit ((s.unit p).pollMark && (portLane p).isSome))

/-- READ_STATUS answer: a single picture of the module, 244 bytes. -/
def statusAnswer (s : State) (p : Port) : List Byte :=
  statusLink (s.port p) ++ statusCabinet s.cabinet ++ statusArbiter s.arbiter ++ allChannels.flatMap (statusChannel s) ++
    statusLane s .a ++ statusLane s .b ++ statusRing (s.ring .a) ++ statusRing (s.ring .b) ++
    be1 s.faults.severity.num ++ be1 (validityNum s.faults) ++ statusUnit s p

end Sys2Proof.Machine
end

