-- ==== Sys2Proof/Machine/Operands.lean ====
section
/-! DEFINITION. The operands of the requests, read from their payload bytes (R181, R182), and the ranges of step 3 of
R177. Bits and bytes the layouts leave unassigned are not looked at. -/

namespace Sys2Proof.Machine

/-- Byte i of a payload, as a number. -/
def byteAt (p : List Byte) (i : Nat) : Nat := (p.getD i 0).toNat

/-- The two-byte field at byte i. -/
def pairAt (p : List Byte) (i : Nat) : Nat := byteAt p i * 256 + byteAt p (i + 1)

/-- The coil type code of six bytes at byte i. -/
def codeAt (p : List Byte) (i : Nat) : TypeCode := BitVec.ofNat 48 (beNat ((p.drop i).take 6))

/-- 0xFF is absent or none (R181). -/
def absent : Nat := 0xFF

/-- A set of heads: two bytes, H15 in the highest bit and H0 in the lowest (R181). -/
def inHeadSet (p : List Byte) (h : HeadId) : Bool := (pairAt p 0).testBit h.val

/-- Lane A is 0, lane B is 1 (R181). -/
def laneOfByte : Nat → Option Lane
  | 0 => some .a
  | 1 => some .b
  | _ => none

/-! ## POST_ORDER (R182) -/

/-- A joint entry of a POST_ORDER: the head byte, and the byte with the class in its low three bits and the cue flag
in its highest. -/
structure PostedJoint where
  head : Nat
  cls : Fin 8
  cue : Bool
deriving DecidableEq, Repr

structure PostOperands where
  tag : Word
  code : TypeCode
  deadline : Nat
  joints : List PostedJoint
deriving DecidableEq, Repr

def postedJointAt (p : List Byte) (i : Nat) : PostedJoint :=
  { head := byteAt p (11 + 2 * i)
    cls := Fin.ofNat 8 (byteAt p (12 + 2 * i))
    cue := (byteAt p (12 + 2 * i)).testBit 7 }

def postLengthOk (p : List Byte) : Bool := p.length == 11 + 2 * byteAt p 10

def parsePost (p : List Byte) : PostOperands :=
  { tag := BitVec.ofNat 16 (pairAt p 0)
    code := codeAt p 2
    deadline := pairAt p 8
    joints := (List.range (byteAt p 10)).map (postedJointAt p) }

/-- Check 3 of R4. -/
def PostOperands.valuesOk (x : PostOperands) : Bool :=
  decide (1 ≤ x.joints.length) && decide (x.joints.length ≤ 16) && (x.joints.all fun j => decide (j.head < 16)) &&
    (x.deadline == 0 || (decide (100 ≤ x.deadline) && decide (x.deadline ≤ 60000)))

/-! ## WRITE_RECIPE (R182) -/

structure RecipeOperands where
  number : Nat
  overtemp : Nat
  postDwell : Nat
  allowance : Nat
  segments : List Segment
deriving DecidableEq, Repr

/-- A target of 0 is absent (R181). -/
def targetOf (v : Nat) : Option Nat := if v = 0 then none else some v

def segmentAt (p : List Byte) (i : Nat) : Segment :=
  { power := pairAt p (7 + 9 * i)
    maxTime := pairAt p (9 + 9 * i)
    tempTarget := targetOf (pairAt p (11 + 9 * i))
    energyTarget := targetOf (pairAt p (13 + 9 * i))
    required := (byteAt p (15 + 9 * i)).testBit 0 }

def recipeLengthOk (p : List Byte) : Bool := p.length == 7 + 9 * byteAt p 6

def parseRecipe (p : List Byte) : RecipeOperands :=
  { number := byteAt p 0
    overtemp := pairAt p 1
    postDwell := pairAt p 3
    allowance := byteAt p 5
    segments := (List.range (byteAt p 6)).map (segmentAt p) }

/-- v is absent or within its range. -/
def optionWithin (v : Option Nat) (lo hi : Nat) : Bool := v.all fun x => decide (lo ≤ x) && decide (x ≤ hi)

/-- The ranges of R29, the required flag's condition, and every temperature target below the limit (R30). -/
def segmentOk (overtemp : Nat) (g : Segment) : Bool :=
  decide (g.power ≤ 350) && decide (10 ≤ g.maxTime) && decide (g.maxTime ≤ 30000) &&
    optionWithin g.tempTarget 200 900 && optionWithin g.energyTarget 1 5000 &&
    (!g.required || g.tempTarget.isSome || g.energyTarget.isSome) &&
    (g.tempTarget.all fun t => decide (t < overtemp))

/-- Check 3 of R30. -/
def RecipeOperands.valuesOk (x : RecipeOperands) : Bool :=
  decide (x.number < 32) && decide (1 ≤ x.segments.length) && decide (x.segments.length ≤ 8) &&
    decide (300 ≤ x.overtemp) && decide (x.overtemp ≤ 950) && decide (x.postDwell ≤ 5000) &&
    decide (x.allowance ≤ 3) && x.segments.all (segmentOk x.overtemp)

def RecipeOperands.recipe (x : RecipeOperands) : Recipe :=
  { segments := x.segments, overtemp := x.overtemp, postDwell := x.postDwell, allowance := x.allowance,
    peak := peakOf x.segments }

/-! ## WRITE_BINDING and SET_FAMILY (R181) -/

/-- A recipe number, or 0xFF for ABSENT. -/
def mapEntryOk (v : Nat) : Bool := decide (v < 32) || v == absent

def mapEntryOf (v : Nat) : Option RecipeId := if v = absent then none else some (Fin.ofNat 32 v)

def bindingValuesOk (p : List Byte) : Bool :=
  decide (byteAt p 0 < 24) && ((List.range 8).all fun i => mapEntryOk (byteAt p (7 + i)))

def parseBinding (p : List Byte) : Binding :=
  { code := codeAt p 1, classMap := tabulate fun i => mapEntryOf (byteAt p (7 + i.val)) }

/-- A lane default: a binding number, or 0xFF for none. -/
def defaultOk (v : Nat) : Bool := decide (v < 24) || v == absent

def defaultOf (v : Nat) : Option BindingId := if v = absent then none else some (Fin.ofNat 24 v)

/-- The 64 family flags, group 63 in the highest bit of the first byte. -/
def familyOf (p : List Byte) : BitVec 64 := BitVec.ofNat 64 (beNat (p.take 8))

/-! ## Codes of single operands (R181) -/

def policyOf : Nat → Option Policy
  | 0 => some .autoRetry
  | 1 => some .autoSkip
  | 2 => some .halt
  | _ => none

/-- The lane of a head: A, B or NONE (2). -/
def headLaneOf : Nat → Option (Option Lane)
  | 0 => some (some .a)
  | 1 => some (some .b)
  | 2 => some none
  | _ => none

def headClassOf : Nat → Option HeadClass
  | 0 => some .low
  | 1 => some .high
  | _ => none

def switchOf : Nat → Option Bool
  | 0 => some false
  | 1 => some true
  | _ => none

def readerOf : Nat → Option Reader
  | 0 => some .lane
  | 1 => some .supervisor
  | _ => none

def responseOf : Nat → Option Response
  | 0 => some .quench
  | 1 => some .contain
  | _ => none

/-- The selectable classes of SET_RESPONSE (R134, R181). -/
def selectableOf : Nat → Option AbortCause
  | 3 => some .inverter
  | 4 => some .matrix
  | 5 => some .headCoolant
  | _ => none

/-- The flags to clear: OPEN_COIL 1, SENSOR_LOST 2, COOLANT_LOW 4, summed. -/
def clearFlags (f : Health) (v : Nat) : Health :=
  { openCoil := f.openCoil && !v.testBit 0
    sensorLost := f.sensorLost && !v.testBit 1
    coolantLow := f.coolantLow && !v.testBit 2 }

/-- The decision of a RESUME. -/
inductive Decision where
  | retry
  | skip
deriving DecidableEq, Repr

def decisionOf : Nat → Option Decision
  | 0 => some .retry
  | 1 => some .skip
  | _ => none

/-- The setup values of CABINET_SETUP. -/
def parseSetup (p : List Byte) : Setup :=
  { channels := byteAt p 0, ceiling := byteAt p 1, transfer := byteAt p 2, settling := pairAt p 3 }

/-- Check 3 of R152. -/
def setupOk (x : Setup) : Bool :=
  decide (1 ≤ x.channels) && decide (x.channels ≤ 6) && decide (10 ≤ x.ceiling) && decide (x.ceiling ≤ 180) &&
    decide (20 ≤ x.transfer) && decide (x.transfer ≤ 80) && decide (200 ≤ x.settling) && decide (x.settling ≤ 2000)

end Sys2Proof.Machine
end

