-- ==== Sys2Proof/Machine/Links.lean ====
section
/-! DEFINITION. The Master Link Interface: the service of a request (R175 to R177), and the commands POWER_ON,
FRAME_DISCARD, FRAME_DROPPED_OVERRUN, ANSWER_SENT, READ_STATUS and UNKNOWN_REQUEST_CODE. -/

namespace Sys2Proof.Machine

/-- What a command answers. -/
abbrev Out := Host.Outcome State Fault Refusal

/-- A request frame that has ended on a port (R173). -/
structure Request where
  port : Port
  code : Byte
  tag : Byte
  payload : List Byte
deriving DecidableEq, Repr

/-- What a block makes of a request from step 3 of R177 on: a refusal code, or the new state with the answer payload. -/
abbrev Answered := Except AnswerCode (State × List Byte)

/-- One check of a request: its code when it fails (R177). -/
def need (ok : Bool) (code : AnswerCode) (rest : Answered) : Answered := if ok then rest else .error code

/-- Step 4 of R177 for a request that is refused in UNCONFIGURED alone. -/
def needSetup (s : State) (rest : Answered) : Answered := need (s.mode != .unconfigured) .unconfigured rest

/-- Step 4 of R177 for a request that is refused in UNCONFIGURED and in QUENCHED. -/
def needMode (s : State) (rest : Answered) : Answered := needSetup s (need (s.mode != .quenched) .quenched rest)

/-- The first discard or drop while LINK_FAULT is clear sets it with its cause (R172). -/
def PortState.note (p : PortState) (cause : LinkCause) : PortState :=
  match p.linkFault with
  | some _ => p
  | none => { p with linkFault := some cause }

def State.noteLinkFault (s : State) (p : Port) (cause : LinkCause) : State := s.setPort p ((s.port p).note cause)

/-- The request is in service and its answer is on the link (R175, R176). -/
def State.answered (s : State) (q : Request) (code : AnswerCode) (payload : List Byte) : State :=
  s.setPort q.port { s.port q.port with
    rx := some (requestFrame q.code q.tag q.payload)
    inService := true
    answer := some { request := q.code, tag := q.tag, code := code, payload := payload } }

/-- The five steps of R177 on a request: length, permission, and the owning block's checks and effect. -/
def judged (q : Request) (lengthOk permitted : Bool) (body : State → Answered) (s : State) : State :=
  if lengthOk then
    if permitted then
      match body s with
      | .ok r => r.1.answered q .ok r.2
      | .error code => s.answered q code []
    else s.answered q .notPermitted []
  else s.answered q .badRequest []

/-- A frame that ends while a request is in service: the receive buffer has taken its bytes in, and it is dropped with
cause OVERRUN; the request goes on (R175). -/
def State.dropFrame (s : State) (p : Port) (frame : List Byte) : State :=
  s.setPort p { (s.port p).note .overrun with rx := some frame }

/-- A request frame ends on a port. While the port has a request in service it is dropped with cause OVERRUN (R175); a
payload that no length byte can give is a bad length (R174); otherwise it is taken. -/
def serve (q : Request) (lengthOk permitted : Bool) (body : State → Answered) (s : State) : Out :=
  if (s.port q.port).inService then .next (s.dropFrame q.port (requestFrame q.code q.tag q.payload))
  else if Config.maxPayload < q.payload.length then .next (s.noteLinkFault q.port .length)
  else .next (judged q lengthOk permitted body s)

/-- A request that only lane ports may send, for their own lane (R178). -/
def serveLane (q : Request) (lengthOk : Bool) (body : Lane → State → Answered) (s : State) : Out :=
  serve q lengthOk (portLane q.port).isSome
    (fun t => match portLane q.port with
      | some l => body l t
      | none => .error .notPermitted) s

/-- A request that only the Supervisor Port may send (R178). -/
def serveSupervisor (q : Request) (lengthOk : Bool) (body : State → Answered) (s : State) : Out :=
  serve q lengthOk (q.port == .supervisor) body s

/-- A request that any port may send (R178). -/
def serveAny (q : Request) (lengthOk : Bool) (body : State → Answered) (s : State) : Out := serve q lengthOk true body s

/-- A request with no payload. -/
def noPayload (p : List Byte) : Bool := p.length == 0

/-! ## POWER_ON (R151, "The module after power-on") -/

/-- Every block takes its power-on state. The queue of commands and the counts of draws and of grants are the model's own
and stay (log entry 20). -/
def execPowerOn (s : State) : Out :=
  .next { State.reset with pending := s.pending, draws := s.draws, grants := s.grants }

/-! ## Frames that are no requests (R174, R175) -/

/-- FRAME_DISCARD (R174): a frame that ends while a request is in service is dropped instead (R175); a frame that passes
all four checks is a request and no discard (log entry 8). -/
def execFrameDiscard (p : Port) (frame : List Byte) (byteError : Bool) (s : State) : Out :=
  if (s.port p).inService then .next (s.dropFrame p frame)
  else match judgeFrame frame byteError with
    | some cause => .next (s.noteLinkFault p cause)
    | none => .next s

/-- FRAME_DROPPED_OVERRUN (R175); with no request in service there is no such event (log entry 8). -/
def execFrameDroppedOverrun (x : PortFrame) (s : State) : Out :=
  if (s.port x.port).inService then .next (s.dropFrame x.port x.bytes) else .next s

/-- ANSWER_SENT (R175 step 4): the in-service flag is cleared, and the receive buffer is empty again (log entry 9); with
no request in service there is no such event (log entry 8). -/
def execAnswerSent (p : Port) (s : State) : Out :=
  if (s.port p).inService then .next (s.setPort p { s.port p with rx := none, inService := false }) else .next s

/-! ## READ_STATUS (R180) -/

/-- The answer is gathered first; then the port's LINK_FAULT flag and cause are cleared. -/
def readStatusBody (p : Port) (s : State) : Answered :=
  .ok (s.setPort p { s.port p with linkFault := none }, statusAnswer s p)

def execReadStatus (p : Port) (tag : Byte) (payload : List Byte) (s : State) : Out :=
  serveAny { port := p, code := 0x01, tag := tag, payload := payload } (noPayload payload) (readStatusBody p) s

/-! ## UNKNOWN_REQUEST_CODE (R177 step 1, R178) -/

/-- A code outside the catalogue is answered BAD_REQUEST from any port. A code of the catalogue is another command's
(log entry 8). -/
def execUnknownRequestCode (p : Port) (code tag : Byte) (payload : List Byte) (s : State) : Out :=
  if code ∈ catalogue then .next s
  else serveAny { port := p, code := code, tag := tag, payload := payload } false (fun _ => .error .badRequest) s

end Sys2Proof.Machine
end

