-- ==== Sys2Proof/Machine/Faults.lean ====
section
/-! DEFINITION. The commands of Fault Control (chapter 7): SET_RESPONSE, READ_ERROR_LOG, CLEAR_ERRORS, CABINET_RESET,
CABINET_INPUT_CHANGE, INVERTER_FAULT_REPORT, MATRIX_FAULT_REPORT. -/

namespace Sys2Proof.Machine

/-! ## SET_RESPONSE (R134) -/

def FaultControl.setResponse (f : FaultControl) (cls : AbortCause) (r : Response) : FaultControl :=
  match cls with
  | .inverter => { f with inverter := r }
  | .matrix => { f with matrix := r }
  | .headCoolant => { f with headCoolant := r }

def setResponseBody (payload : List Byte) (s : State) : Answered :=
  match selectableOf (byteAt payload 0), responseOf (byteAt payload 1) with
  | some cls, some r => needSetup s <| .ok (s.setFaults (s.faults.setResponse cls r), [])
  | some _, none => .error .badValue
  | none, _ => .error .badValue

def execSetResponse (p : Port) (tag : Byte) (payload : List Byte) (s : State) : Out :=
  serveSupervisor { port := p, code := 0x60, tag := tag, payload := payload } (payload.length == 2)
    (setResponseBody payload) s

/-! ## READ_ERROR_LOG (R145) -/

def readErrorLogBody (s : State) : Answered := .ok (s, errorLogAnswer s.faults)

def execReadErrorLog (p : Port) (tag : Byte) (payload : List Byte) (s : State) : Out :=
  serveSupervisor { port := p, code := 0x61, tag := tag, payload := payload } (noPayload payload) readErrorLogBody s

/-! ## CLEAR_ERRORS (R146) -/

def FaultControl.clearErrors (f : FaultControl) : FaultControl :=
  { f with severity := .clear, cabinetLog := none, laneLogs := { a := none, b := none } }

def clearErrorsBody (s : State) : Answered := needMode s <| .ok (s.setFaults s.faults.clearErrors, [])

def execClearErrors (p : Port) (tag : Byte) (payload : List Byte) (s : State) : Out :=
  serveSupervisor { port := p, code := 0x62, tag := tag, payload := payload } (noPayload payload) clearErrorsBody s

/-! ## CABINET_RESET (R147, R148) -/

/-- SETTLING with the timer at the full interval and the dummy load not selected (R147, R148, R153, R157). -/
def Cabinet.settle (c : Cabinet) : Cabinet :=
  { c with mode := .settling, settlingTimer := c.setup.map (·.settling), dummyLoad := false }

/-- A channel at CABINET_RESET (R81): its attempt ends INTERRUPTED; a STOPPED channel goes FAULTED where its mark is set;
every other installed channel that is not FAULTED goes IDLE, unparked. -/
def State.resetChannel (s : State) (c : ChannelId) : State :=
  let s1 := s.interruptAttempt c
  match (s.chan c).state with
  | .offline => s1
  | .faulted => s1
  | .stopped =>
    let after : ChannelState := if (s.chan c).faultHeld then .faulted else .idle
    (s1.modChan c fun r => { r with state := after, faultHeld := false }).setParked c none
  | .idle => (s1.modChan c ChannelRec.clear).setParked c none
  | .transfer => (s1.modChan c ChannelRec.clear).setParked c none
  | .heating => (s1.modChan c ChannelRec.clear).setParked c none

/-- The channels and the arbiter at CABINET_RESET (R81). -/
def State.resetChannels (s : State) : State :=
  (allChannels.foldl State.resetChannel s).modArbiter Arbiter.empty

/-- QUENCH cleared on every port (R147 step 3). -/
def State.clearQuench (s : State) : State :=
  let cleared (u : EventUnit) : EventUnit := { u with quench := none }
  { s with units := { laneA := cleared s.units.laneA, laneB := cleared s.units.laneB,
                      supervisor := cleared s.units.supervisor } }

/-- QUENCH is lowered to CONTAINED (R144). -/
def Severity.lower : Severity → Severity
  | .clear => .clear
  | .contained => .contained
  | .quench => .contained

/-- Taken in QUENCHED (R147 steps 1 to 4). -/
def State.resetQuenched (s : State) : State :=
  let s1 := s.resetChannels
  let s2 := (s1.setFaults { s1.faults with severity := s1.faults.severity.lower }).clearQuench
  s2.setCabinet s2.cabinet.settle

/-- Taken in SETTLING, LIVE or PROOF (R148 steps 1 to 4). -/
def State.resetWorking (s : State) : State :=
  let s1 := (s.resetChannels.interruptLane .a).interruptLane .b
  s1.setCabinet s1.cabinet.settle

/-- An accepted CABINET_RESET, with the inputs that stand in alarm (R133). -/
def State.cabinetReset (s : State) : State :=
  (if s.mode = .quenched then s.resetQuenched else s.resetWorking).standingAlarms

def cabinetResetBody (s : State) : Answered := needSetup s <| .ok (s.cabinetReset, [])

def execCabinetReset (p : Port) (tag : Byte) (payload : List Byte) (s : State) : Out :=
  serveSupervisor { port := p, code := 0x63, tag := tag, payload := payload } (noPayload payload) cabinetResetBody s

/-! ## Reports from the field (R132, R133) -/

/-- CABINET_INPUT_CHANGE (R133): a repeated state changes nothing; a change into alarm is a quench cause by the mode. -/
def execCabinetInputChange (i : CabinetInput) (alarm : Bool) (s : State) : Out :=
  if s.faults.alarm i = alarm then .next s
  else
    let s1 := s.setFaults (s.faults.setAlarm i alarm)
    .next (if alarm then s1.inputCause i else s1)

/-- INVERTER_FAULT_REPORT (R132). -/
def execInverterFaultReport (c : ChannelId) (s : State) : Out := .next (s.inverterFault c).arbitrate

/-- MATRIX_FAULT_REPORT (R132, log entry 18). -/
def execMatrixFaultReport (c : ChannelId) (s : State) : Out := .next (s.matrixFault c).arbitrate

end Sys2Proof.Machine
end

