-- ==== Sys2Proof/Machine/CabinetModes.lean ====
section
/-! DEFINITION. CABINET_SETUP, ENTER_PROOF, LEAVE_PROOF and SETTLING_EXPIRY (chapter 8). -/

namespace Sys2Proof.Machine

/-! ## CABINET_SETUP (R152, R153) -/

/-- A channel at setup: below the installed count it is IDLE, unparked (R83). -/
def installChannel (count : Nat) (c : ChannelId) (r : ChannelRec) : ChannelRec :=
  if c.val < count then { r with state := .idle, parked := none, attempt := none } else r

/-- Cabinet Control at setup (R153 steps 1 and 4). -/
def Cabinet.setUp (c : Cabinet) (x : Setup) : Cabinet :=
  { c with mode := .settling, setup := some x, timeBase := some 0, settlingTimer := some x.settling }

/-- The five steps of R153. -/
def State.setUp (s : State) (x : Setup) : State :=
  let s1 := (s.mapChans (installChannel x.channels)).modArbiter fun a => { a with budget := x.ceiling, committed := 0 }
  (s1.setCabinet (s1.cabinet.setUp x)).standingAlarms

def cabinetSetupBody (payload : List Byte) (s : State) : Answered :=
  let x := parseSetup payload
  need (setupOk x) .badValue <| need (s.mode == .unconfigured) .once <| .ok (s.setUp x, [])

def execCabinetSetup (p : Port) (tag : Byte) (payload : List Byte) (s : State) : Out :=
  serveSupervisor { port := p, code := 0x70, tag := tag, payload := payload } (payload.length == 5)
    (cabinetSetupBody payload) s

/-! ## ENTER_PROOF and LEAVE_PROOF (R156, R157) -/

/-- A channel is in TRANSFER or HEATING. -/
def State.poolBusy (s : State) : Bool :=
  allChannels.any fun c => (s.chan c).state == .transfer || (s.chan c).state == .heating

/-- An IDLE channel is unparked (R83). -/
def State.unparkIdle (s : State) (c : ChannelId) : State := if (s.chan c).state = .idle then s.setParked c none else s

/-- Every IDLE channel unparked and every stay reservation lifted (R83). -/
def State.unparkAll (s : State) : State := (allChannels.foldl State.unparkIdle s).liftStays fun _ => true

/-- Cabinet Control enters PROOF (R156 step 1). -/
def Cabinet.enterProof (c : Cabinet) : Cabinet := { c with mode := .proof, dummyLoad := true }

/-- An accepted ENTER_PROOF; activation is tried as at every entry to PROOF (R7). -/
def State.enterProof (s : State) : State :=
  let s1 := (s.setCabinet s.cabinet.enterProof).unparkAll
  ((s1.tryActivation .a).tryActivation .b).arbitrate

def enterProofBody (s : State) : Answered :=
  needMode s <| need (s.mode == .live) .wrongMode <| need (!s.poolBusy) .busy <| .ok (s.enterProof, [])

def execEnterProof (p : Port) (tag : Byte) (payload : List Byte) (s : State) : Out :=
  serveSupervisor { port := p, code := 0x71, tag := tag, payload := payload } (noPayload payload) enterProofBody s

/-- An accepted LEAVE_PROOF: the candidate is dropped, its pointers stay. -/
def State.leaveProof (s : State) : State :=
  let s1 := s.unparkAll
  (s1.setCabinet s1.cabinet.settle).modArbiter fun a => { a with candidate := none }

def leaveProofBody (s : State) : Answered :=
  needMode s <| need (s.mode == .proof) .wrongMode <| need (!s.poolBusy) .busy <| .ok (s.leaveProof, [])

def execLeaveProof (p : Port) (tag : Byte) (payload : List Byte) (s : State) : Out :=
  serveSupervisor { port := p, code := 0x72, tag := tag, payload := payload } (noPayload payload) leaveProofBody s

/-! ## SETTLING_EXPIRY (R154) -/

/-- LIVE, with the settling timer stopped. -/
def Cabinet.goLive (c : Cabinet) : Cabinet := { c with mode := .live, settlingTimer := none }

/-- The three steps of R154. -/
def State.takeSettled (s : State) : State :=
  let s1 := s.setCabinet s.cabinet.goLive
  let s2 := ((s1.post .laneA .cabinetLive .none).post .laneB .cabinetLive .none).post .supervisor .cabinetLive .none
  ((s2.tryActivation .a).tryActivation .b).arbitrate

/-- The timer runs out first (log entry 2); a stopped timer does not expire. -/
def execSettlingExpiry (s : State) : Out :=
  match s.cabinet.settlingTimer with
  | none => .next s
  | some left => .next (s.elapse left).takeSettled

end Sys2Proof.Machine
end

