-- ==== Sys2Proof/Machine/Channels.lean ====
section
/-! DEFINITION. The commands of the Grant Arbiter and the Channel Controllers (chapters 4 and 5): SET_BUDGET,
RESTORE_CHANNEL, ENERGY_REPORT, SEGMENT_TIMER_EXPIRY, MOVE_COMPLETION, CANDIDATE_NAMING, GRANT. -/

namespace Sys2Proof.Machine

/-! ## SET_BUDGET (R71) -/

/-- 10 to 180 kW and, after setup, not above the bus ceiling. -/
def State.budgetOk (s : State) (v : Nat) : Bool :=
  decide (10 ≤ v) && decide (v ≤ 180) && s.ceiling.all fun c => decide (v ≤ c)

def setBudgetBody (payload : List Byte) (s : State) : Answered :=
  let v := byteAt payload 0
  need (s.budgetOk v) .badValue <| needMode s <|
    .ok ((s.modArbiter fun a => { a with budget := v }).arbitrate, [])

def execSetBudget (p : Port) (tag : Byte) (payload : List Byte) (s : State) : Out :=
  serveSupervisor { port := p, code := 0x40, tag := tag, payload := payload } (payload.length == 1)
    (setBudgetBody payload) s

/-! ## RESTORE_CHANNEL (R82) -/

/-- A FAULTED channel goes IDLE; it is unparked already. A channel in any other state is left as it is. -/
def ChannelRec.restore (r : ChannelRec) : ChannelRec := if r.state = .faulted then { r with state := .idle } else r

def restoreChannelBody (payload : List Byte) (s : State) : Answered :=
  need (decide (byteAt payload 0 < 6)) .badValue <| needMode s <|
    .ok ((s.modChan (Fin.ofNat 6 (byteAt payload 0)) ChannelRec.restore).arbitrate, [])

def execRestoreChannel (p : Port) (tag : Byte) (payload : List Byte) (s : State) : Out :=
  serveSupervisor { port := p, code := 0x41, tag := tag, payload := payload } (payload.length == 1)
    (restoreChannelBody payload) s

/-! ## ENERGY_REPORT (R92) -/

/-- The report names the attempt and the segment of the energy task the module has, which is that of the segment now
running in the attempt now running, and the segment's power is above 0 (log entry 19). -/
def State.reportTaken (s : State) (c : ChannelId) (n : AttemptName) (segment : Nat) : Bool :=
  (s.chan c).state == .heating && (s.energyTask c).any (fun t => t.attempt == n && t.segment == segment) &&
    (s.segmentOf c).any fun g => decide (0 < g.power)

def execEnergyReport (c : ChannelId) (n : AttemptName) (segment : Nat) (s : State) : Out :=
  if s.reportTaken c n segment then .next (s.segmentEnd c .energy).arbitrate else .next s

/-! ## SEGMENT_TIMER_EXPIRY (R93) -/

/-- The timer runs out first (log entry 2); with no segment running there is no timer. -/
def execSegmentTimerExpiry (c : ChannelId) (s : State) : Out :=
  match (s.chan c).heat with
  | none => .next s
  | some w => .next ((s.elapse w.segTimer).segmentEnd c .time).arbitrate

/-! ## MOVE_COMPLETION (R76, R77) -/

/-- The matrix confirmation checked on a channel (R76 step 1, R77 step 3). -/
def State.checkMatrix (s : State) (c : ChannelId) (confirmed : Bool) : State :=
  if confirmed then s else s.matrixFault c

/-- A move completes. With no attempt, or an abandoned one, the channel goes IDLE, parked, before the confirmation is
checked (R77); otherwise the checks of R76 are made. -/
def State.moveCompletes (s : State) (c : ChannelId) (confirmed loadPresent : Bool) : State :=
  match (s.chan c).attempt with
  | none => (s.modChan c ChannelRec.clear).checkMatrix c confirmed
  | some a =>
    if a.abandoned then (s.endAttempt c .aborted .idle).checkMatrix c confirmed
    else if confirmed then
      if s.mode = .live ∧ loadPresent = false then s.endAttempt c .noLoad .idle else s.enterHeating c
    else s.matrixFault c

/-- A channel whose move timer runs, in TRANSFER (log entries 2 and 8). -/
def execMoveCompletion (c : ChannelId) (confirmed loadPresent : Bool) (s : State) : Out :=
  match (s.chan c).moveTimer with
  | none => .next s
  | some left =>
    if (s.chan c).state = .transfer then .next ((s.elapse left).moveCompletes c confirmed loadPresent).arbitrate
    else .next s

/-! ## CANDIDATE_NAMING and GRANT (R64, R66 to R68) -/

/-- The internal step, taken where its condition holds, with what follows within the event (log entry 4). -/
def execCandidateNaming (s : State) : Out :=
  if s.arbiter.candidate.isNone && s.naming.isSome then .next s.nameCandidate.arbitrate else .next s

/-- The internal step, taken where its conditions hold, with what follows within the event (log entry 4). -/
def execGrant (s : State) : Out :=
  match s.grantPlan with
  | some p => .next (s.grant p).arbitrate
  | none => .next s

end Sys2Proof.Machine
end

