-- ==== Sys2Proof/Machine/Events.lean ====
section
/-! DEFINITION. POLL_EVENT and SET_ATTENTION (chapter 9). -/

namespace Sys2Proof.Machine

/-- Step 3 of R166: a poll-cleared kind is cleared; SLOT_FREE gets its poll-reported mark and stays pending; a condition
kind stays pending. -/
def EventUnit.polled (u : EventUnit) : EventKind → EventUnit
  | .posted .slotFree => { u with pollMark := true }
  | .posted .quench => u.put .quench none
  | .posted .containError => u.put .containError none
  | .posted .headFault => u.put .headFault none
  | .posted .orderLate => u.put .orderLate none
  | .posted .cabinetLive => u.put .cabinetLive none
  | .posted .orderDone => u.put .orderDone none
  | .posted .nearDone => u.put .nearDone none
  | .orderHalted => u
  | .resultsPending => u

/-- A poll of a port's unit (R166). -/
def pollBody (p : Port) (s : State) : Answered :=
  match s.vectorKind p with
  | none => .ok (s, pollAnswer 0 .none [])
  | some kind =>
    let t := s.modUnit p fun u => u.polled kind
    .ok (t, pollAnswer (eventCode p kind) (s.contextOf p kind) (t.pendingCodes p))

def execPollEvent (p : Port) (tag : Byte) (payload : List Byte) (s : State) : Out :=
  serveAny { port := p, code := 0x02, tag := tag, payload := payload } (noPayload payload) (pollBody p) s

/-- SET_ATTENTION (R168). -/
def setAttentionBody (p : Port) (payload : List Byte) (s : State) : Answered :=
  match switchOf (byteAt payload 0) with
  | none => .error .badValue
  | some enable => .ok (s.modUnit p fun u => { u with attention := enable }, [])

def execSetAttention (p : Port) (tag : Byte) (payload : List Byte) (s : State) : Out :=
  serveAny { port := p, code := 0x03, tag := tag, payload := payload } (payload.length == 1)
    (setAttentionBody p payload) s

end Sys2Proof.Machine
end

