-- ==== Sys2Proof/Machine/Heads.lean ====
section
/-! DEFINITION. The commands of the Head Table and its field events (chapter 3). -/

namespace Sys2Proof.Machine

/-! ## WRITE_HEAD (R44, R45) -/

/-- The settings a WRITE_HEAD gives. -/
structure HeadSettings where
  lane : Option Lane
  cls : HeadClass
  stay : Bool
  anticipation : Nat
deriving DecidableEq, Repr

/-- The settings of a payload, where head, lane, class, stay and anticipation are in range (check 3 of R44). -/
def parseHead (p : List Byte) : Option (HeadId × HeadSettings) :=
  match headLaneOf (byteAt p 1), headClassOf (byteAt p 2), switchOf (byteAt p 3) with
  | some lane, some cls, some stay =>
    if byteAt p 0 < 16 ∧ byteAt p 4 ≤ 15 then
      some (Fin.ofNat 16 (byteAt p 0), { lane := lane, cls := cls, stay := stay, anticipation := byteAt p 4 })
    else none
  | _, _, _ => none

/-- An order names the head in its joint list. -/
def Order.names (o : Order) (h : HeadId) : Bool := o.joints.any fun j => j.head == h

/-- An occupied slot of the lane holds an order with a joint on the head (check 5 of R44). -/
def State.headInUse (s : State) (l : Lane) (h : HeadId) : Bool :=
  allSlots.any fun k => (s.order l k).any fun o => o.names h

/-- Check 5 of R44: made only where the lane changes from A or B. -/
def State.laneChangeOk (s : State) (h : HeadId) (lane : Option Lane) : Bool :=
  match (s.head h).lane with
  | none => true
  | some l => lane == some l || !s.headInUse l h

/-- The record with its settings replaced; a lane change clears the cue latch and cool-until (R45). -/
def HeadRec.write (r : HeadRec) (x : HeadSettings) : HeadRec :=
  let changed := r.lane != x.lane
  { r with
    lane := x.lane, cls := x.cls, stay := x.stay, anticipation := x.anticipation
    cueLatch := if changed then false else r.cueLatch
    coolUntil := if changed then none else r.coolUntil }

/-- An accepted WRITE_HEAD; a lane change, or stay turned off, lifts the head's stay reservation (R45, R73). -/
def State.writeHead (s : State) (h : HeadId) (x : HeadSettings) : State :=
  let r := s.head h
  let s1 := s.modHead h fun r => r.write x
  (if (r.lane != x.lane) || (r.stay && !x.stay) then s1.liftStays (· == h) else s1).arbitrate

def writeHeadBody (payload : List Byte) (s : State) : Answered :=
  match parseHead payload with
  | none => .error .badValue
  | some (h, x) =>
    needMode s <| need (s.laneChangeOk h x.lane) .headInUse <| .ok (s.writeHead h x, [])

def execWriteHead (p : Port) (tag : Byte) (payload : List Byte) (s : State) : Out :=
  serveSupervisor { port := p, code := 0x30, tag := tag, payload := payload } (payload.length == 5)
    (writeHeadBody payload) s

/-! ## MASK_HEADS and UNMASK_HEADS (R46) -/

/-- Every head of the set takes the mask. -/
def State.setMasks (s : State) (which : HeadId → Bool) (masked : Bool) : State :=
  s.mapHeads fun h r => if which h then { r with masked := masked } else r

/-- MASK_HEADS also lifts the stay reservations of the set. -/
def maskHeadsBody (payload : List Byte) (s : State) : Answered :=
  needSetup s <|
    .ok (((s.setMasks (inHeadSet payload) true).liftStays (inHeadSet payload)).arbitrate, [])

def execMaskHeads (p : Port) (tag : Byte) (payload : List Byte) (s : State) : Out :=
  serveSupervisor { port := p, code := 0x31, tag := tag, payload := payload } (payload.length == 2)
    (maskHeadsBody payload) s

def unmaskHeadsBody (payload : List Byte) (s : State) : Answered :=
  needMode s <| .ok ((s.setMasks (inHeadSet payload) false).arbitrate, [])

def execUnmaskHeads (p : Port) (tag : Byte) (payload : List Byte) (s : State) : Out :=
  serveSupervisor { port := p, code := 0x32, tag := tag, payload := payload } (payload.length == 2)
    (unmaskHeadsBody payload) s

/-! ## CLEAR_HEAD_HEALTH (R53) -/

/-- The flags named are cleared; COOLANT_LOW comes back at once while the switch stands at LOW (log entry 23). -/
def State.clearHealth (s : State) (h : HeadId) (flags : Nat) : State :=
  let r := s.head h
  let s1 := s.modHead h fun r => { r with health := clearFlags r.health flags }
  let back := r.health.coolantLow && flags.testBit 2 && r.coolant == .low
  (if back then s1.setHealth h .coolantLow else s1).arbitrate

def clearHeadHealthBody (payload : List Byte) (s : State) : Answered :=
  need (decide (byteAt payload 0 < 16)) .badValue <| needSetup s <|
    let h : HeadId := Fin.ofNat 16 (byteAt payload 0)
    let t := s.clearHealth h (byteAt payload 1)
    .ok (t, be1 (t.head h).health.num)

def execClearHeadHealth (p : Port) (tag : Byte) (payload : List Byte) (s : State) : Out :=
  serveSupervisor { port := p, code := 0x33, tag := tag, payload := payload } (payload.length == 2)
    (clearHeadHealthBody payload) s

/-! ## CUE (R54) -/

/-- The front joint of a head when it is in CUE_WAIT. -/
def State.waitingForCue (s : State) (h : HeadId) : Option (Lane × SlotId × Nat) :=
  match s.frontOf h with
  | none => none
  | some (l, k, _, i, j) => if j.state = .cueWait then some (l, k, i) else none

def cueBody (payload : List Byte) (l : Lane) (s : State) : Answered :=
  need (decide (byteAt payload 0 < 16)) .badValue <| needMode s <|
    let h : HeadId := Fin.ofNat 16 (byteAt payload 0)
    need (s.ofLane l h) .headNotLane <|
      match s.waitingForCue h with
      | some (m, k, i) => .ok ((s.modJoint m k i fun j => { j with state := .ready }).arbitrate, [])
      | none =>
        need (!(s.head h).cueLatch) .cueHeld <|
          .ok (s.modHead h fun r => { r with cueLatch := true }, [])

def execCue (p : Port) (tag : Byte) (payload : List Byte) (s : State) : Out :=
  serveLane { port := p, code := 0x17, tag := tag, payload := payload } (payload.length == 1) (cueBody payload) s

/-! ## READ_HEAD (R58) -/

def readHeadBody (payload : List Byte) (s : State) : Answered :=
  need (decide (byteAt payload 0 < 16)) .badValue <| .ok (s, headAnswer s (Fin.ofNat 16 (byteAt payload 0)))

def execReadHead (p : Port) (tag : Byte) (payload : List Byte) (s : State) : Out :=
  serveAny { port := p, code := 0x34, tag := tag, payload := payload } (payload.length == 1) (readHeadBody payload) s

/-! ## PYROMETER_READING (R47, R91, R96) -/

/-- The peak temperature rises to the reading. -/
def State.notePeak (s : State) (c : ChannelId) (v : Nat) : State :=
  s.modChan c fun r => { r with heat := r.heat.map fun (w : Heating) => { w with peakTemp := max w.peakTemp v } }

/-- The running segment of a channel has a temperature target that the reading meets with the anticipation. -/
def State.meetsTarget (s : State) (c : ChannelId) (h : HeadId) (v : Nat) : Bool :=
  match s.segmentOf c with
  | none => false
  | some g => g.tempTarget.any fun t => decide (t ≤ v + (s.head h).anticipation)

/-- A reading above the overtemperature limit of the attempt's recipe. -/
def State.aboveLimit (s : State) (c : ChannelId) (v : Nat) : Bool :=
  (s.chan c).attempt.any fun a => decide ((s.recipe a.recipe).overtemp < v)

/-- A reading handed to the controller of a heating channel (R91). -/
def State.takeReading (s : State) (c : ChannelId) (h : HeadId) (v : Nat) : State :=
  let s1 := s.notePeak c v
  if s1.aboveLimit c v then s1.cutAttempt c .overheat .idle
  else if s1.meetsTarget c h v then s1.segmentEnd c .temp
  else s1

/-- A valid reading (R47); in LIVE it is handed on when the head is heating. -/
def State.storeReading (s : State) (h : HeadId) (v : Nat) : State :=
  let s1 := s.modHead h fun r => { r with temp := some v, sensorTimer := some Config.sensorTimeout }
  match s.heatingChannel h with
  | none => s1
  | some c => if s.mode = .live then (s1.takeReading c h v).arbitrate else s1

/-- A reading with the invalid mark, or above 1200 °C, is not a reading (R47, log entry 8). -/
def execPyrometerReading (h : HeadId) (reading : Option Nat) (s : State) : Out :=
  match reading with
  | none => .next s
  | some v => if v ≤ 1200 then .next (s.storeReading h v) else .next s

/-! ## SENSOR_TIMER_EXPIRY (R48, R49) -/

/-- The expiry: the timer stops, the latest temperature goes; heating in LIVE it is a sensor loss, whose result sets
SENSOR_LOST (R97, R101). -/
def State.takeSensorExpiry (s : State) (h : HeadId) : State :=
  let s1 := s.modHead h fun r => { r with temp := none, sensorTimer := none }
  match s.heatingChannel h with
  | none => s1
  | some c => if s.mode = .live then (s1.cutAttempt c .sensorLost .idle).arbitrate else s1

/-- The timer runs out first (log entry 2); a stopped timer does not expire. -/
def execSensorTimerExpiry (h : HeadId) (s : State) : Out :=
  match (s.head h).sensorTimer with
  | none => .next s
  | some left => .next ((s.elapse left).takeSensorExpiry h)

/-! ## COOLANT_SWITCH_REPORT (R50) -/

/-- A report of LOW, by the head's state. -/
def State.coolantLow (s : State) (h : HeadId) : State :=
  if (s.head h).health.coolantLow then s
  else match s.heatingChannel h with
    | some c => (s.headCoolantFault h c).arbitrate
    | none => (s.setHealth h .coolantLow).arbitrate

def execCoolantSwitchReport (h : HeadId) (switch : CoolantSwitch) (s : State) : Out :=
  let s1 := s.modHead h fun r => { r with coolant := switch }
  match switch with
  | .ok => .next s1
  | .low => .next (s1.coolantLow h)

/-! ## COOL_UNTIL_EXPIRY (R56) -/

/-- Cool-until becomes absent and a front joint in COOLING goes READY. -/
def State.takeCooled (s : State) (h : HeadId) : State :=
  let s1 := s.modHead h fun r => { r with coolUntil := none }
  match s1.frontOf h with
  | none => s1.arbitrate
  | some (l, k, _, i, j) =>
    (if j.state = .cooling then s1.modJoint l k i fun x => { x with state := .ready } else s1).arbitrate

/-- The remaining time passes first (log entries 2 and 24). -/
def execCoolUntilExpiry (h : HeadId) (s : State) : Out :=
  match s.coolLeft h with
  | none => .next s
  | some left => .next ((s.elapse left).takeCooled h)

end Sys2Proof.Machine
end

