-- ==== Sys2Proof/Machine/Joints.lean ====
section
/-! DEFINITION. RESUME RETRY and RESUME SKIP (5.7). The two rows carry the one request RESUME; its decision byte tells
them apart (log entry 25). -/

namespace Sys2Proof.Machine

/-- The oldest halted joint leaves the list (R109, R110). -/
def State.popHalted (s : State) (l : Lane) : State := s.modOm l fun om => { om with halted := om.halted.tail }

/-- RETRY: the joint goes to COOLING while cool-until is present, and to READY otherwise (R109). -/
def State.retryJoint (s : State) (l : Lane) (k : SlotId) (i : Nat) (j : Joint) : State :=
  let next : JointState := if (s.head j.head).coolUntil.isSome then .cooling else .ready
  (((s.popHalted l).modJoint l k i fun x => { x with state := next }).leaveHalted l k).arbitrate

/-- SKIP: the joint takes UNDERHEAT, the next joint of the head becomes the front, and the near-done test and the
completion check follow (R110). -/
def State.skipJoint (s : State) (l : Lane) (k : SlotId) (i : Nat) (j : Joint) : State :=
  let s1 := (s.popHalted l).modJoint l k i fun x => x.giveOutcome .underheat
  let s2 := (s1.leaveHalted l k).frontArrival l j.head
  ((s2.nearDoneTest l).completionCheck l).arbitrate

/-- A joint may be retried: its attempt number is below 15 (check 7 of R108). -/
def retryOk (d : Decision) (j : Joint) : Bool :=
  match d with
  | .retry => decide (j.attempts < 15)
  | .skip => true

def State.resume (s : State) (d : Decision) (l : Lane) (k : SlotId) (i : Nat) (j : Joint) : State :=
  match d with
  | .retry => s.retryJoint l k i j
  | .skip => s.skipJoint l k i j

/-- The slot, the joint index acted on and the entries left (R108, R182). -/
def resumeAnswer (k : SlotId) (i left : Nat) : List Byte := be1 k.val ++ be1 i ++ be1 left

def resumeBody (payload : List Byte) (l : Lane) (s : State) : Answered :=
  match decisionOf (byteAt payload 0) with
  | none => .error .badValue
  | some d =>
    needMode s <|
      match s.active l with
      | none => .error .noActive
      | some (k, o) =>
        need (o.state == .halted) .notHalted <|
          match (s.om l).halted with
          | [] => .error .notHalted
          | i :: rest => match o.joints[i]? with
            | none => .error .notHalted
            | some j => need (retryOk d j) .retryLimit <| .ok (s.resume d l k i j, resumeAnswer k i rest.length)

/-- A RESUME request (R108). -/
def serveResume (p : Port) (tag : Byte) (payload : List Byte) (s : State) : Out :=
  serveLane { port := p, code := 0x16, tag := tag, payload := payload } (payload.length == 1) (resumeBody payload) s

def execResumeRetry (p : Port) (tag : Byte) (payload : List Byte) (s : State) : Out := serveResume p tag payload s

def execResumeSkip (p : Port) (tag : Byte) (payload : List Byte) (s : State) : Out := serveResume p tag payload s

end Sys2Proof.Machine
end

