-- ==== Sys2Proof/Machine/Orders.lean ====
section
/-! DEFINITION. The order commands of chapter 1: POST_ORDER, RELEASE, DISCARD, ABORT_ORDER, SET_LANE_POLICY,
LANE_RESET, ACTIVATION, DEADLINE_EXPIRY. -/

namespace Sys2Proof.Machine

/-! ## POST_ORDER (R4, R5, R39, R40) -/

/-- The group of a coil type code: the sum of its six bytes modulo 64 (R38). -/
def groupOf (code : TypeCode) : Nat :=
  ((code >>> 40).toNat % 256 + (code >>> 32).toNat % 256 + (code >>> 24).toNat % 256 + (code >>> 16).toNat % 256 +
    (code >>> 8).toNat % 256 + code.toNat % 256) % 64

/-- The binding that holds a type code (R39 step 1). -/
def State.bindingOf (s : State) (code : TypeCode) : Option Binding :=
  (List.finRange 24).findSome? fun n => (s.bindings.get n).filter fun b => b.code == code

/-- The lane's default binding where it is not EMPTY (R39 step 2). -/
def State.defaultBinding (s : State) (l : Lane) : Option Binding :=
  match s.defaults.get l with
  | none => none
  | some n => s.bindings.get n

/-- Resolution of a type code on a lane (R39). -/
def State.resolve (s : State) (l : Lane) (code : TypeCode) : Option Binding :=
  match s.bindingOf code with
  | some b => some b
  | none => if s.family.getLsbD (groupOf code) then s.defaultBinding l else none

/-- Every joint's class maps to a recipe (R4 check 7). -/
def classesMapped (b : Binding) (joints : List PostedJoint) : Bool :=
  joints.all fun j => (b.classMap.get j.cls).isSome

/-- The recipe a posted joint's class maps to. -/
def recipeOf (b : Binding) (j : PostedJoint) : RecipeId := (b.classMap.get j.cls).getD 0

/-- Every recipe found is DEFINED (R4 check 8). -/
def State.recipesDefined (s : State) (b : Binding) (joints : List PostedJoint) : Bool :=
  joints.all fun j => (s.recipes.get (recipeOf b j)).recipe.isSome

/-- Every joint's head is assigned to the posting lane (R4 check 9). -/
def State.headsOnLane (s : State) (l : Lane) (joints : List PostedJoint) : Bool :=
  joints.all fun j => s.ofLane l (Fin.ofNat 16 j.head)

/-- A joint at acceptance (R2). -/
def acceptedJoint (b : Binding) (j : PostedJoint) : Joint :=
  { head := Fin.ofNat 16 j.head, cls := j.cls, cue := j.cue, recipe := recipeOf b j, state := .pending, attempts := 0,
    outcome := none }

/-- The order record at acceptance (R1). -/
def acceptedOrder (x : PostOperands) (b : Binding) : Order :=
  { tag := x.tag, code := x.code, deadline := x.deadline, joints := x.joints.map (acceptedJoint b), state := .posted,
    recipes := (x.joints.map (recipeOf b)).eraseDups, late := false, discard := false, abort := false,
    nearDone := false, proof := false }

/-- The four steps of R5. -/
def State.storeOrder (s : State) (l : Lane) (o : Order) : State :=
  let s1 := (s.setSlot l (s.om l).postPtr (some o)).addRefs o.recipes
  (s1.modOm l fun om => { om with postPtr := om.postPtr + 1 }).reportPost l

def postOrderBody (payload : List Byte) (l : Lane) (s : State) : Answered :=
  let x := parsePost payload
  need x.valuesOk .badValue <| needMode s <|
    need (s.order l (s.om l).postPtr).isNone .noSlot <|
      match s.resolve l x.code with
      | none => .error .unboundType
      | some b =>
        need (classesMapped b x.joints) .classUnmapped <|
          need (s.recipesDefined b x.joints) .recipeEmpty <|
            need (s.headsOnLane l x.joints) .headNotLane <|
              .ok (s.storeOrder l (acceptedOrder x b), be1 (s.om l).postPtr.val)

def execPostOrder (p : Port) (tag : Byte) (payload : List Byte) (s : State) : Out :=
  serveLane { port := p, code := 0x10, tag := tag, payload := payload } (postLengthOk payload) (postOrderBody payload) s

/-! ## RELEASE (R6) -/

/-- The released count rises and activation is tried. -/
def State.releaseOrder (s : State) (l : Lane) : State :=
  ((s.modOm l fun om => { om with released := om.released + 1 }).tryActivation l).arbitrate

def releaseBody (l : Lane) (s : State) : Answered :=
  needMode s <| need (decide ((s.om l).released < (s.postedOrders l).length)) .range <| .ok (s.releaseOrder l, [])

def execRelease (p : Port) (tag : Byte) (payload : List Byte) (s : State) : Out :=
  serveLane { port := p, code := 0x11, tag := tag, payload := payload } (noPayload payload) releaseBody s

/-! ## Winding down: what DISCARD, ABORT_ORDER and the deadline share -/

/-- A joint of an order that winds down: not begun takes one outcome, cooling or halted takes UNDERHEAT, one in an
attempt runs on (R14, R17, R19). -/
def Joint.windDown (waitingOutcome : JointOutcome) (j : Joint) : Joint :=
  if j.waiting then j.giveOutcome waitingOutcome
  else if j.coolingOrHalted then j.giveOutcome .underheat
  else j

/-- The deadline timer stops, the joints not in an attempt get their outcomes, the halted-joint list empties and the
lane's stay reservations are lifted (R14, R17, R19, R73). -/
def State.windDown (s : State) (l : Lane) (k : SlotId) (waitingOutcome : JointOutcome) : State :=
  let s1 := (s.mapJoints l k (Joint.windDown waitingOutcome)).modOm l fun om => { om with deadline := none }
  (s1.clearHalted l k).liftStays (s.ofLane l)

/-! ## DISCARD (R17) -/

/-- The effect of an accepted DISCARD on the active order; a second one changes nothing. -/
def State.discardOrder (s : State) (l : Lane) (k : SlotId) (o : Order) : State :=
  if o.discard then s
  else
    let s1 := s.modOrder l k fun x => { x with discard := true }
    ((s1.windDown l k .notRun).completionCheck l).arbitrate

def discardBody (l : Lane) (s : State) : Answered :=
  needMode s <|
    match s.active l with
    | none => .error .noActive
    | some (k, o) => .ok (s.discardOrder l k o, [])

def execDiscard (p : Port) (tag : Byte) (payload : List Byte) (s : State) : Out :=
  serveLane { port := p, code := 0x13, tag := tag, payload := payload } (noPayload payload) discardBody s

/-! ## ABORT_ORDER (R18 to R21) -/

/-- The WITHDRAWN record: every joint has outcome NOT_RUN and attempt number 0, and the PROOF flag is clear (R21,
R118). -/
def State.withdrawnRecord (s : State) (l : Lane) (k : SlotId) (o : Order) : CompletionRecord :=
  { lane := l, slot := k, tag := o.tag, code := o.code, kind := .withdrawn, proof := false, time := s.now,
    joints := o.joints.map fun _ => (.notRun, 0) }

/-- A withdrawal (R21): the record at once, the release with the order, the slot freed. The next released order may then
be the one that fits its ring, so activation is tried (log entry 15). -/
def State.withdraw (s : State) (l : Lane) (k : SlotId) (o : Order) : State :=
  let released := s.isReleased l k
  let s1 := s.appendRecord l (.completion (s.withdrawnRecord l k o))
  let s2 := s1.modOm l fun om => { om with released := if released then om.released - 1 else om.released }
  ((s2.freeSlot l k o).tryActivation l).arbitrate

/-- The attempt of a channel is one of the order in the slot. -/
def ChannelRec.servesOrder (r : ChannelRec) (l : Lane) (k : SlotId) : Bool :=
  r.attempt.any fun a => a.lane == l && a.slot == k

/-- Steps 2 and 3 of R19 at one channel: an attempt in HEATING is cut and its joint takes ABORTED; a move under way is
abandoned. The model's choice (log entry 13): no stay reservation (R72) is judged for a cut attempt, whatever order
activates after the abort. -/
def State.abortChannel (l : Lane) (k : SlotId) (s : State) (c : ChannelId) : State :=
  if (s.chan c).servesOrder l k then
    match (s.chan c).attempt with
    | none => s
    | some a =>
      if (s.chan c).state = .heating then
        ((s.recordSegment c .cut).closeAttempt c .aborted .idle).modJoint l k a.joint fun j => j.giveOutcome .aborted
      else s.modChan c fun r => { r with attempt := some { a with abandoned := true } }
  else s

/-- An abort of the active order (R19); a second one changes nothing. -/
def State.abortOrder (s : State) (l : Lane) (k : SlotId) (o : Order) : State :=
  if o.abort then s
  else
    let s1 := s.modOrder l k fun x => { x with abort := true }
    let s2 := allChannels.foldl (State.abortChannel l k) (s1.windDown l k .notRun)
    (s2.completionCheck l).arbitrate

def abortOrderBody (payload : List Byte) (l : Lane) (s : State) : Answered :=
  let n := byteAt payload 0
  need (decide (n < 4)) .badValue <| needSetup s <|
    let k : SlotId := Fin.ofNat 4 n
    match s.order l k with
    | none => .error .noActive
    | some o =>
      if o.state = .posted then
        need (decide (o.recordSize ≤ (s.ring l).free)) .ringFull <| .ok (s.withdraw l k o, [])
      else .ok (s.abortOrder l k o, [])

def execAbortOrder (p : Port) (tag : Byte) (payload : List Byte) (s : State) : Out :=
  serveLane { port := p, code := 0x12, tag := tag, payload := payload } (payload.length == 1) (abortOrderBody payload) s

/-! ## SET_LANE_POLICY (R23) -/

def setLanePolicyBody (payload : List Byte) (l : Lane) (s : State) : Answered :=
  match policyOf (byteAt payload 0) with
  | none => .error .badValue
  | some policy =>
    need (decide (byteAt payload 1 ≤ 15)) .badValue <| needSetup s <|
      need (s.active l).isNone .active <|
        .ok (s.modOm l fun om => { om with policy := policy, threshold := byteAt payload 1 }, [])

def execSetLanePolicy (p : Port) (tag : Byte) (payload : List Byte) (s : State) : Out :=
  serveLane { port := p, code := 0x14, tag := tag, payload := payload } (payload.length == 2)
    (setLanePolicyBody payload) s

/-! ## LANE_RESET (R25, R26) -/

/-- The Order Manager's part; the lane policy is kept (R25). -/
def OrderManager.laneReset (om : OrderManager) : OrderManager :=
  { OrderManager.reset with policy := om.policy, threshold := om.threshold }

/-- The references of every order of the lane removed (R25 step 3). -/
def State.dropLaneRefs (s : State) (l : Lane) : State :=
  allSlots.foldl (fun t k => match s.order l k with
    | some o => t.dropRefs o.recipes
    | none => t) s

/-- An attempt of the lane is removed from its channel: HEATING is cut and goes IDLE, parked; TRANSFER goes on as a move
without an attempt; committed power is released (R26). -/
def State.removeAttempt (l : Lane) (s : State) (c : ChannelId) : State :=
  match (s.chan c).attempt with
  | none => s
  | some a =>
    if a.lane = l then
      let s1 := s.release a
      if (s.chan c).state = .heating then s1.modChan c ChannelRec.clear
      else s1.modChan c fun r => { r with attempt := none }
    else s

/-- The lane's ring emptied; its reader is kept and told (R26, R128). -/
def State.emptyRing (s : State) (l : Lane) : State :=
  (s.modRing l fun r => { r with records := [], reserved := 0 }).reportResults (readerPort l (s.ring l).reader) l false

/-- The heads assigned to the lane lose their cue latch and cool-until (R26). -/
def State.clearLaneHeads (s : State) (l : Lane) : State :=
  s.mapHeads fun _ r => if r.lane = some l then { r with cueLatch := false, coolUntil := none } else r

/-- An accepted LANE_RESET (R25, R26). -/
def State.laneReset (s : State) (l : Lane) : State :=
  let s1 := (s.dropLaneRefs l).modOm l OrderManager.laneReset
  let s2 := (allChannels.foldl (State.removeAttempt l) s1).emptyRing l
  let s3 := ((s2.clearLaneHeads l).liftStays (s.ofLane l)).dropCandidateIf (s.ofLane l)
  (s3.modUnit (lanePort l) EventUnit.clear).arbitrate

/-- The lane of a LANE_RESET: the port's own, or the one the supervisor names. -/
def resetLane (p : Port) (payload : List Byte) : Option Lane :=
  match portLane p with
  | some l => some l
  | none => laneOfByte (byteAt payload 0)

/-- No payload from a lane port, one byte from the Supervisor Port (R178). -/
def laneResetLengthOk (p : Port) (payload : List Byte) : Bool :=
  payload.length == if (portLane p).isSome then 0 else 1

def laneResetBody (p : Port) (payload : List Byte) (s : State) : Answered :=
  match resetLane p payload with
  | none => .error .badValue
  | some l => .ok (s.laneReset l, [])

def execLaneReset (p : Port) (tag : Byte) (payload : List Byte) (s : State) : Out :=
  serveAny { port := p, code := 0x15, tag := tag, payload := payload } (laneResetLengthOk p payload)
    (laneResetBody p payload) s

/-! ## ACTIVATION (R7, R8) -/

/-- The internal step, taken where its conditions hold (log entry 4). -/
def execActivation (l : Lane) (s : State) : Out :=
  if (s.activatable l).isSome then .next (s.tryActivation l).arbitrate else .next s

/-! ## DEADLINE_EXPIRY (R14) -/

/-- The expiry of the deadline on the active order. -/
def State.takeDeadline (s : State) (l : Lane) : State :=
  match s.active l with
  | none => s.modOm l fun om => { om with deadline := none }
  | some (k, o) =>
    let s1 := s.modOrder l k fun x => { x with late := true }
    let s2 := (s1.windDown l k .skippedLate).post (lanePort l) .orderLate (orderContext l k o)
    ((s2.nearDoneTest l).completionCheck l).arbitrate

/-- The timer runs out first (log entry 2); a stopped timer does not expire (R13). -/
def execDeadlineExpiry (l : Lane) (s : State) : Out :=
  match (s.om l).deadline with
  | none => .next s
  | some left => .next ((s.elapse left).takeDeadline l)

end Sys2Proof.Machine
end

