-- ==== Sys2Proof/Machine/Recipes.lean ====
section
/-! DEFINITION. The commands of the Recipe Store and the Binding Table (chapter 2). -/

namespace Sys2Proof.Machine

def State.setRecipe (s : State) (r : RecipeId) (x : Option Recipe) : State :=
  { s with recipes := s.recipes.set r { recipe := x, refs := (s.recipes.get r).refs } }

def State.setBinding (s : State) (n : BindingId) (b : Option Binding) : State :=
  { s with bindings := s.bindings.set n b }

/-- The bus ceiling in 0.1 kW; no check meets it before setup. -/
def State.ceilingTenths (s : State) : Nat := s.ceiling.getD 0 * 10

/-- WRITE_RECIPE (R30, R31). -/
def writeRecipeBody (payload : List Byte) (s : State) : Answered :=
  let x := parseRecipe payload
  need x.valuesOk .badValue <| needMode s <|
    let r : RecipeId := Fin.ofNat 32 x.number
    need ((s.recipes.get r).refs == 0) .inUse <|
      need (decide (x.recipe.peak ≤ s.ceilingTenths)) .badValue <|
        .ok (s.setRecipe r (some x.recipe), be2 x.recipe.peak)

def execWriteRecipe (p : Port) (tag : Byte) (payload : List Byte) (s : State) : Out :=
  serveSupervisor { port := p, code := 0x20, tag := tag, payload := payload } (recipeLengthOk payload)
    (writeRecipeBody payload) s

/-- CLEAR_RECIPE (R32). -/
def clearRecipeBody (payload : List Byte) (s : State) : Answered :=
  need (decide (byteAt payload 0 < 32)) .badValue <| needSetup s <|
    let r : RecipeId := Fin.ofNat 32 (byteAt payload 0)
    need ((s.recipes.get r).refs == 0) .inUse <| .ok (s.setRecipe r none, [])

def execClearRecipe (p : Port) (tag : Byte) (payload : List Byte) (s : State) : Out :=
  serveSupervisor { port := p, code := 0x21, tag := tag, payload := payload } (payload.length == 1)
    (clearRecipeBody payload) s

/-- READ_RECIPE (R35). -/
def readRecipeBody (payload : List Byte) (s : State) : Answered :=
  need (decide (byteAt payload 0 < 32)) .badValue <|
    let r : RecipeId := Fin.ofNat 32 (byteAt payload 0)
    .ok (s, recipeAnswer r (s.recipes.get r))

def execReadRecipe (p : Port) (tag : Byte) (payload : List Byte) (s : State) : Out :=
  serveAny { port := p, code := 0x22, tag := tag, payload := payload } (payload.length == 1) (readRecipeBody payload) s

/-- Another binding than n holds the type code (R36 check 5). -/
def State.codeTaken (s : State) (n : BindingId) (code : TypeCode) : Bool :=
  (List.finRange 24).any fun m => m != n && (s.bindings.get m).any fun b => b.code == code

/-- WRITE_BINDING (R36). -/
def writeBindingBody (payload : List Byte) (s : State) : Answered :=
  need (bindingValuesOk payload) .badValue <| needMode s <|
    let n : BindingId := Fin.ofNat 24 (byteAt payload 0)
    let b := parseBinding payload
    need (!s.codeTaken n b.code) .duplicateType <| .ok (s.setBinding n (some b), [])

def execWriteBinding (p : Port) (tag : Byte) (payload : List Byte) (s : State) : Out :=
  serveSupervisor { port := p, code := 0x23, tag := tag, payload := payload } (payload.length == 15)
    (writeBindingBody payload) s

/-- CLEAR_BINDING (R37). -/
def clearBindingBody (payload : List Byte) (s : State) : Answered :=
  need (decide (byteAt payload 0 < 24)) .badValue <| needSetup s <|
    .ok (s.setBinding (Fin.ofNat 24 (byteAt payload 0)) none, [])

def execClearBinding (p : Port) (tag : Byte) (payload : List Byte) (s : State) : Out :=
  serveSupervisor { port := p, code := 0x24, tag := tag, payload := payload } (payload.length == 1)
    (clearBindingBody payload) s

/-- SET_FAMILY (R38). -/
def setFamilyBody (payload : List Byte) (s : State) : Answered :=
  need (defaultOk (byteAt payload 8) && defaultOk (byteAt payload 9)) .badValue <| needMode s <|
    .ok ({ s with
            family := familyOf payload
            defaults := { a := defaultOf (byteAt payload 8), b := defaultOf (byteAt payload 9) } }, [])

def execSetFamily (p : Port) (tag : Byte) (payload : List Byte) (s : State) : Out :=
  serveSupervisor { port := p, code := 0x25, tag := tag, payload := payload } (payload.length == 10)
    (setFamilyBody payload) s

/-- READ_BINDING (R41). -/
def readBindingBody (payload : List Byte) (s : State) : Answered :=
  need (decide (byteAt payload 0 < 24)) .badValue <|
    .ok (s, bindingAnswer s (Fin.ofNat 24 (byteAt payload 0)))

def execReadBinding (p : Port) (tag : Byte) (payload : List Byte) (s : State) : Out :=
  serveSupervisor { port := p, code := 0x26, tag := tag, payload := payload } (payload.length == 1)
    (readBindingBody payload) s

end Sys2Proof.Machine
end

