-- ==== Sys2Proof/Machine/Rings.lean ====
section
/-! DEFINITION. READ_RESULTS, ACK_RESULTS and SET_READER (chapter 6). -/

namespace Sys2Proof.Machine

/-- The port is the reader of the lane's ring (R124). -/
def State.isReader (s : State) (p : Port) (l : Lane) : Bool := p == readerPort l (s.ring l).reader

/-- The longest run of oldest records whose sizes together fit `room` words. -/
def fitting : List Record → Nat → List Record
  | [], _ => []
  | r :: rest, room => if r.size ≤ room then r :: fitting rest (room - r.size) else []

/-- The records a read returns: the oldest, at most n, within the word limit (R124). -/
def Ring.read (r : Ring) (n : Nat) : List Record := fitting (r.records.take n) Config.readLimit

def readResultsBody (p : Port) (payload : List Byte) (s : State) : Answered :=
  match laneOfByte (byteAt payload 0) with
  | none => .error .badValue
  | some l =>
    let n := byteAt payload 1
    need (decide (1 ≤ n) && decide (n ≤ 8)) .badValue <| need (s.isReader p l) .notReader <|
      .ok (s, resultsAnswer l (s.ring l) ((s.ring l).read n))

def execReadResults (p : Port) (tag : Byte) (payload : List Byte) (s : State) : Out :=
  serveAny { port := p, code := 0x50, tag := tag, payload := payload } (payload.length == 2)
    (readResultsBody p payload) s

/-- The n oldest records leave the ring, which reports when it became empty (R125, R128). -/
def State.removeOldest (s : State) (l : Lane) (n : Nat) : State :=
  let s1 := s.modRing l fun r => { r with records := r.records.drop n }
  if (s1.ring l).records.isEmpty then s1.reportResults (readerPort l (s.ring l).reader) l false else s1

/-- The space is offered to the Order Manager and then to the Grant Arbiter (R126). -/
def State.acknowledge (s : State) (l : Lane) (n : Nat) : State := ((s.removeOldest l n).tryActivation l).arbitrate

/-- The counts of the answer are those after the removal and what it led to (R125, log entry 11). -/
def ackResultsBody (p : Port) (payload : List Byte) (s : State) : Answered :=
  match laneOfByte (byteAt payload 0) with
  | none => .error .badValue
  | some l =>
    let n := pairAt payload 1
    need (decide (1 ≤ n) && decide (n ≤ 585)) .badValue <| need (s.isReader p l) .notReader <|
      need (decide (n ≤ (s.ring l).stored)) .range <|
        let t := s.acknowledge l n
        .ok (t, ackAnswer (t.ring l))

def execAckResults (p : Port) (tag : Byte) (payload : List Byte) (s : State) : Out :=
  serveAny { port := p, code := 0x51, tag := tag, payload := payload } (payload.length == 3)
    (ackResultsBody p payload) s

/-- The reader replaced: empty is reported to the old reader's unit and, with records stored, non-empty to the new
one's (R127, R128). -/
def State.changeReader (s : State) (l : Lane) (reader : Reader) : State :=
  let s1 := s.reportResults (readerPort l (s.ring l).reader) l false
  let s2 := s1.modRing l fun r => { r with reader := reader }
  if (s.ring l).records.isEmpty then s2 else s2.reportResults (readerPort l reader) l true

def setReaderBody (payload : List Byte) (s : State) : Answered :=
  match laneOfByte (byteAt payload 0), readerOf (byteAt payload 1) with
  | some l, some reader => needSetup s <| .ok (s.changeReader l reader, [])
  | some _, none => .error .badValue
  | none, _ => .error .badValue

def execSetReader (p : Port) (tag : Byte) (payload : List Byte) (s : State) : Out :=
  serveSupervisor { port := p, code := 0x52, tag := tag, payload := payload } (payload.length == 2)
    (setReaderBody payload) s

end Sys2Proof.Machine
end

