-- ==== Sys2Proof/Machine/Dispatch.lean ====
section
/-! DEFINITION. The meaning of every command: one arm per constructor of Instr. -/

namespace Sys2Proof.Machine

/-- The effect of a command on everything but the queue. -/
def exec (i : Instr) (s : State) : Host.Outcome State Fault Refusal :=
  match i with
  | .powerOn => Sys2Proof.Machine.execPowerOn s
  | .frameDiscard port frame byteError => Sys2Proof.Machine.execFrameDiscard port frame byteError s
  | .frameDroppedOverrun frame => Sys2Proof.Machine.execFrameDroppedOverrun frame s
  | .answerSent port => Sys2Proof.Machine.execAnswerSent port s
  | .readStatus port tag payload => Sys2Proof.Machine.execReadStatus port tag payload s
  | .pollEvent port tag payload => Sys2Proof.Machine.execPollEvent port tag payload s
  | .setAttention port tag payload => Sys2Proof.Machine.execSetAttention port tag payload s
  | .postOrder port tag payload => Sys2Proof.Machine.execPostOrder port tag payload s
  | .release port tag payload => Sys2Proof.Machine.execRelease port tag payload s
  | .discard port tag payload => Sys2Proof.Machine.execDiscard port tag payload s
  | .abortOrder port tag payload => Sys2Proof.Machine.execAbortOrder port tag payload s
  | .setLanePolicy port tag payload => Sys2Proof.Machine.execSetLanePolicy port tag payload s
  | .laneReset port tag payload => Sys2Proof.Machine.execLaneReset port tag payload s
  | .resumeRetry port tag payload => Sys2Proof.Machine.execResumeRetry port tag payload s
  | .resumeSkip port tag payload => Sys2Proof.Machine.execResumeSkip port tag payload s
  | .cue port tag payload => Sys2Proof.Machine.execCue port tag payload s
  | .writeRecipe port tag payload => Sys2Proof.Machine.execWriteRecipe port tag payload s
  | .clearRecipe port tag payload => Sys2Proof.Machine.execClearRecipe port tag payload s
  | .readRecipe port tag payload => Sys2Proof.Machine.execReadRecipe port tag payload s
  | .writeBinding port tag payload => Sys2Proof.Machine.execWriteBinding port tag payload s
  | .clearBinding port tag payload => Sys2Proof.Machine.execClearBinding port tag payload s
  | .setFamily port tag payload => Sys2Proof.Machine.execSetFamily port tag payload s
  | .readBinding port tag payload => Sys2Proof.Machine.execReadBinding port tag payload s
  | .writeHead port tag payload => Sys2Proof.Machine.execWriteHead port tag payload s
  | .maskHeads port tag payload => Sys2Proof.Machine.execMaskHeads port tag payload s
  | .unmaskHeads port tag payload => Sys2Proof.Machine.execUnmaskHeads port tag payload s
  | .clearHeadHealth port tag payload => Sys2Proof.Machine.execClearHeadHealth port tag payload s
  | .readHead port tag payload => Sys2Proof.Machine.execReadHead port tag payload s
  | .setBudget port tag payload => Sys2Proof.Machine.execSetBudget port tag payload s
  | .restoreChannel port tag payload => Sys2Proof.Machine.execRestoreChannel port tag payload s
  | .readResults port tag payload => Sys2Proof.Machine.execReadResults port tag payload s
  | .ackResults port tag payload => Sys2Proof.Machine.execAckResults port tag payload s
  | .setReader port tag payload => Sys2Proof.Machine.execSetReader port tag payload s
  | .setResponse port tag payload => Sys2Proof.Machine.execSetResponse port tag payload s
  | .readErrorLog port tag payload => Sys2Proof.Machine.execReadErrorLog port tag payload s
  | .clearErrors port tag payload => Sys2Proof.Machine.execClearErrors port tag payload s
  | .cabinetReset port tag payload => Sys2Proof.Machine.execCabinetReset port tag payload s
  | .cabinetSetup port tag payload => Sys2Proof.Machine.execCabinetSetup port tag payload s
  | .enterProof port tag payload => Sys2Proof.Machine.execEnterProof port tag payload s
  | .leaveProof port tag payload => Sys2Proof.Machine.execLeaveProof port tag payload s
  | .pyrometerReading head reading => Sys2Proof.Machine.execPyrometerReading head reading s
  | .sensorTimerExpiry head => Sys2Proof.Machine.execSensorTimerExpiry head s
  | .coolantSwitchReport head switch => Sys2Proof.Machine.execCoolantSwitchReport head switch s
  | .cabinetInputChange input alarm => Sys2Proof.Machine.execCabinetInputChange input alarm s
  | .inverterFaultReport channel => Sys2Proof.Machine.execInverterFaultReport channel s
  | .matrixFaultReport channel => Sys2Proof.Machine.execMatrixFaultReport channel s
  | .energyReport channel attempt segment => Sys2Proof.Machine.execEnergyReport channel attempt segment s
  | .segmentTimerExpiry channel => Sys2Proof.Machine.execSegmentTimerExpiry channel s
  | .moveCompletion channel confirmed loadPresent => Sys2Proof.Machine.execMoveCompletion channel confirmed loadPresent s
  | .activation lane => Sys2Proof.Machine.execActivation lane s
  | .candidateNaming => Sys2Proof.Machine.execCandidateNaming s
  | .grant => Sys2Proof.Machine.execGrant s
  | .deadlineExpiry lane => Sys2Proof.Machine.execDeadlineExpiry lane s
  | .coolUntilExpiry head => Sys2Proof.Machine.execCoolUntilExpiry head s
  | .settlingExpiry => Sys2Proof.Machine.execSettlingExpiry s
  | .unknownRequestCode port code tag payload => Sys2Proof.Machine.execUnknownRequestCode port code tag payload s

end Sys2Proof.Machine
end

