-- ==== Sys2Proof/Machine/Outputs.lean ====
section
/-! DEFINITION. What the module drives at its pins, as functions of State (1.2, R61, R75, R90, R150, R168): the front
panel LEDs, the attention lines (in Flags.lean), the commands of the channel modules and the matrix. -/

namespace Sys2Proof.Machine

/-- PWR is lit from power-on. -/
def State.ledPwr (_ : State) : Bool := true

/-- LIVE is lit in LIVE (R150). -/
def State.ledLive (s : State) : Bool := s.mode == .live

/-- QUENCH is lit in QUENCHED (R150). -/
def State.ledQuench (s : State) : Bool := s.mode == .quenched

/-- HTn is lit while channel Cn is HEATING (R61, R89). -/
def State.ledHeat (s : State) (c : ChannelId) : Bool := (s.chan c).state == .heating

/-- The power, in 0.1 kW, commanded to a channel module: the running segment's while HEATING, else 0 (R75, R90). -/
def State.drivePower (s : State) (c : ChannelId) : Nat :=
  if (s.chan c).state = .heating then
    match s.segmentOf c with
    | some g => g.power
    | none => 0
  else 0

/-- What a channel module is commanded to: the power in 0.1 kW, the time from which it counts the segment's energy, which
the segment start clears, and the energy task (R90 steps 3 and 4). -/
structure ModuleDrive where
  power : Nat
  countFrom : Option Time
  task : Option EnergyTask
deriving DecidableEq, Repr

/-- The command on the interface of a channel module; outside HEATING, power 0 and nothing to count (R75, R79, R90). -/
def State.moduleDrive (s : State) (c : ChannelId) : ModuleDrive :=
  if (s.chan c).state = .heating then
    { power := s.drivePower c, countFrom := (s.chan c).heat.map (·.segStart), task := s.energyTask c }
  else { power := 0, countFrom := none, task := none }

/-- What a channel's matrix section is commanded to. -/
inductive MatrixPosition where
  | open
  | head (h : HeadId)
  | dummy (h : HeadId)
deriving DecidableEq, Repr

/-- The matrix follows the parking; in PROOF it is the dummy load in the head's name (R74, R75, R158). -/
def State.matrix (s : State) (c : ChannelId) : MatrixPosition :=
  match (s.chan c).parked with
  | none => .open
  | some h => if s.cabinet.dummyLoad then .dummy h else .head h

end Sys2Proof.Machine
end

