-- ==== Sys2Proof/Safety.lean ====
section
/-! DEFINITION. What the statements about the module speak of: the requests and their tables (R178, R181), what a table
of the manual makes of a joint, and the laws that every step is claimed to keep. -/

namespace Sys2Proof.Machine

/-! ## Requests -/

/-- The request frame that a command is, with its code by R181; none for the commands that are no request. -/
def requestOf : Instr → Option Request
  | .readStatus p t x => some ⟨p, 0x01, t, x⟩
  | .pollEvent p t x => some ⟨p, 0x02, t, x⟩
  | .setAttention p t x => some ⟨p, 0x03, t, x⟩
  | .postOrder p t x => some ⟨p, 0x10, t, x⟩
  | .release p t x => some ⟨p, 0x11, t, x⟩
  | .abortOrder p t x => some ⟨p, 0x12, t, x⟩
  | .discard p t x => some ⟨p, 0x13, t, x⟩
  | .setLanePolicy p t x => some ⟨p, 0x14, t, x⟩
  | .laneReset p t x => some ⟨p, 0x15, t, x⟩
  | .resumeRetry p t x => some ⟨p, 0x16, t, x⟩
  | .resumeSkip p t x => some ⟨p, 0x16, t, x⟩
  | .cue p t x => some ⟨p, 0x17, t, x⟩
  | .writeRecipe p t x => some ⟨p, 0x20, t, x⟩
  | .clearRecipe p t x => some ⟨p, 0x21, t, x⟩
  | .readRecipe p t x => some ⟨p, 0x22, t, x⟩
  | .writeBinding p t x => some ⟨p, 0x23, t, x⟩
  | .clearBinding p t x => some ⟨p, 0x24, t, x⟩
  | .setFamily p t x => some ⟨p, 0x25, t, x⟩
  | .readBinding p t x => some ⟨p, 0x26, t, x⟩
  | .writeHead p t x => some ⟨p, 0x30, t, x⟩
  | .maskHeads p t x => some ⟨p, 0x31, t, x⟩
  | .unmaskHeads p t x => some ⟨p, 0x32, t, x⟩
  | .clearHeadHealth p t x => some ⟨p, 0x33, t, x⟩
  | .readHead p t x => some ⟨p, 0x34, t, x⟩
  | .setBudget p t x => some ⟨p, 0x40, t, x⟩
  | .restoreChannel p t x => some ⟨p, 0x41, t, x⟩
  | .readResults p t x => some ⟨p, 0x50, t, x⟩
  | .ackResults p t x => some ⟨p, 0x51, t, x⟩
  | .setReader p t x => some ⟨p, 0x52, t, x⟩
  | .setResponse p t x => some ⟨p, 0x60, t, x⟩
  | .readErrorLog p t x => some ⟨p, 0x61, t, x⟩
  | .clearErrors p t x => some ⟨p, 0x62, t, x⟩
  | .cabinetReset p t x => some ⟨p, 0x63, t, x⟩
  | .cabinetSetup p t x => some ⟨p, 0x70, t, x⟩
  | .enterProof p t x => some ⟨p, 0x71, t, x⟩
  | .leaveProof p t x => some ⟨p, 0x72, t, x⟩
  | .unknownRequestCode p code t x => if code ∈ catalogue then none else some ⟨p, code, t, x⟩
  | .powerOn => none
  | .frameDiscard _ _ _ => none
  | .frameDroppedOverrun _ => none
  | .answerSent _ => none
  | .pyrometerReading _ _ => none
  | .sensorTimerExpiry _ => none
  | .coolantSwitchReport _ _ => none
  | .cabinetInputChange _ _ => none
  | .inverterFaultReport _ => none
  | .matrixFaultReport _ => none
  | .energyReport _ _ _ => none
  | .segmentTimerExpiry _ => none
  | .moveCompletion _ _ _ => none
  | .activation _ => none
  | .candidateNaming => none
  | .grant => none
  | .deadlineExpiry _ => none
  | .coolUntilExpiry _ => none
  | .settlingExpiry => none

/-- The requests of a fixed length other than 0, with that length (the table of R181). -/
def fixedLengths : List (Byte × Nat) :=
  [(0x03, 1), (0x12, 1), (0x14, 2), (0x16, 1), (0x17, 1), (0x21, 1), (0x22, 1), (0x23, 15), (0x24, 1), (0x25, 10),
   (0x26, 1), (0x30, 5), (0x31, 2), (0x32, 2), (0x33, 2), (0x34, 1), (0x40, 1), (0x41, 1), (0x50, 2), (0x51, 3),
   (0x52, 2), (0x60, 2), (0x70, 5)]

/-- The payload length that a request of the catalogue needs (the table of R181): POST_ORDER and WRITE_RECIPE by their
counts, LANE_RESET by the port, the others fixed. -/
def Request.neededLength (q : Request) : Nat :=
  if q.code = 0x10 then 11 + 2 * byteAt q.payload 10
  else if q.code = 0x20 then 7 + 9 * byteAt q.payload 6
  else if q.code = 0x15 then (if q.port = .supervisor then 1 else 0)
  else ((fixedLengths.find? fun (x : Byte × Nat) => x.1 == q.code).map fun (x : Byte × Nat) => x.2).getD 0

/-- The codes that only lane ports may send (R178): POST_ORDER, RELEASE, ABORT_ORDER, DISCARD, SET_LANE_POLICY, RESUME,
CUE. -/
def laneCodes : List Byte := [0x10, 0x11, 0x12, 0x13, 0x14, 0x16, 0x17]

/-- The codes that any port may send (R178): READ_STATUS, POLL_EVENT, SET_ATTENTION, LANE_RESET, READ_RECIPE, READ_HEAD,
READ_RESULTS, ACK_RESULTS. -/
def anyPortCodes : List Byte := [0x01, 0x02, 0x03, 0x15, 0x22, 0x34, 0x50, 0x51]

/-- The port may send the request: the other codes are the supervisor's (R178). -/
def Request.mayBeSent (q : Request) : Bool :=
  anyPortCodes.contains q.code || (if laneCodes.contains q.code then q.port != .supervisor else q.port == .supervisor)

/-- The port has no request in service and the payload is one that a frame can carry (R173, R175). -/
abbrev State.takes (s : State) (q : Request) : Prop :=
  (s.port q.port).inService = false ∧ q.payload.length ≤ Config.maxPayload

/-! ## What the tables of R14, R17 and R19 make of a joint -/

/-- PENDING, CUE_WAIT and READY take the outcome given; COOLING and HALTED take UNDERHEAT; the others stay. -/
def settledJoint (out : JointOutcome) (j : Joint) : Joint :=
  match j.state with
  | .pending => { j with state := .done, outcome := some out }
  | .cueWait => { j with state := .done, outcome := some out }
  | .ready => { j with state := .done, outcome := some out }
  | .cooling => { j with state := .done, outcome := some .underheat }
  | .halted => { j with state := .done, outcome := some .underheat }
  | .transfer => j
  | .heating => j
  | .done => j

/-! ## Laws -/

/-- Cabinet Control and Fault Control agree with the mode (R144, R150, R154): severity is QUENCH exactly while QUENCHED;
the setup values and the time base are there exactly outside UNCONFIGURED; the settling timer runs exactly in SETTLING;
the dummy load is selected exactly in PROOF. -/
def CabinetLaw (s : State) : Prop :=
  (s.faults.severity = .quench ↔ s.mode = .quenched) ∧
  (s.cabinet.setup.isSome ↔ s.mode ≠ .unconfigured) ∧
  (s.cabinet.timeBase.isSome ↔ s.mode ≠ .unconfigured) ∧
  (s.cabinet.settlingTimer.isSome ↔ s.mode = .settling) ∧
  (s.cabinet.dummyLoad = true ↔ s.mode = .proof)

/-- A port's receive buffer holds a frame exactly while a request is in service (the model's choice, log entry 9), and
there is an answer on the link then (R175; the field is the model's, log entry 10). -/
def LinkLaw (s : State) : Prop :=
  ∀ p, ((s.port p).rx.isSome ↔ (s.port p).inService = true) ∧
    ((s.port p).inService = true → (s.port p).answer.isSome)

/-- The peak powers of the attempts on the channels, summed, in 0.1 kW. -/
def State.peakSum (s : State) : Nat := (allChannels.map fun c => ((s.chan c).attempt.map (·.peak)).getD 0).sum

/-- Only a channel in TRANSFER or HEATING has an attempt, none has one before setup, and committed power is the sum of
their peak powers (R61, R70). -/
def PowerLaw (s : State) : Prop :=
  (s.mode = .unconfigured → ∀ c, (s.chan c).attempt = none) ∧
  (∀ c, (s.chan c).attempt.isSome → (s.chan c).state = .transfer ∨ (s.chan c).state = .heating) ∧
  s.arbiter.committed = s.peakSum

/-- The port reads the lane's ring and the ring holds records. -/
def State.resultsHeld (s : State) (p : Port) (l : Lane) : Bool := s.isReader p l && !(s.ring l).records.isEmpty

/-- RESULTS_PENDING stands on a port exactly while the port is the reader of a non-empty ring (R128). -/
def ResultsLaw (s : State) : Prop := ∀ p l, (s.unit p).results.get l = s.resultsHeld p l

end Sys2Proof.Machine
end

