-- ==== Sys2Proof/Certificates/Slice0/Obligations.lean ====
section
/-! DEFINITION. The statements for the provers. In every statement about a request, `s.takes q` says that the port has no
request in service and that the payload fits a frame; `s.answered q code p` is s with the request in service, its
frame in the receive buffer and the answer frame of that code and payload on the port's link; what the buffer holds and
the field of the answer are the model's choice (log entries 9 and 10). An attempt end is
stated once, in AttemptEndWritesOrSuppressesRecord, and named where a command leads to it. -/

open Sys2Proof Sys2Proof.Machine

/-! ## The step -/

/-- The host's law: a step runs the command at the front of the queue on the state with the queue's rest. -/
def Obligations.StepRunsFrontCommand : Prop :=
  ∀ (c : Instr) (rest : List Instr) (s : State), step { s with pending := c :: rest } = exec c { s with pending := rest }

/-- The model's choice (log entries 1 and 3): on an empty queue one ms passes. -/
def Obligations.EmptyQueueTicksOneMs : Prop :=
  ∀ s : State, s.pending = [] → ∃ t : State, step s = .next t ∧
    t.cabinet = { s.cabinet with
      timeBase := s.cabinet.timeBase.map (· + 1), settlingTimer := s.cabinet.settlingTimer.map (· - 1) } ∧
    (∀ l, t.om l = { s.om l with deadline := (s.om l).deadline.map (· - 1) }) ∧
    (∀ h, t.head h = { s.head h with sensorTimer := (s.head h).sensorTimer.map (· - 1) }) ∧
    (∀ c, t.chan c = { s.chan c with
      moveTimer := (s.chan c).moveTimer.map (· - 1)
      heat := (s.chan c).heat.map fun (w : Heating) => { w with segTimer := w.segTimer - 1 } }) ∧
    t.pending = [] ∧ t.ports = s.ports ∧ t.recipes = s.recipes ∧ t.bindings = s.bindings ∧ t.family = s.family ∧
    t.defaults = s.defaults ∧ t.arbiter = s.arbiter ∧ t.rings = s.rings ∧ t.faults = s.faults ∧ t.units = s.units ∧
    t.draws = s.draws ∧ t.grants = s.grants

/-- The state after power-on, by the table "The module after power-on". The queue and the counts of draws and grants
are the model's own (log entry 20). -/
def Obligations.PowerOnState : Prop :=
  ∀ s : State, ∃ t : State, exec .powerOn s = .next t ∧ t.pending = s.pending ∧ t.draws = s.draws ∧
    t.grants = s.grants ∧
    t.cabinet = { mode := .unconfigured, setup := none, settlingTimer := none, timeBase := none, dummyLoad := false } ∧
    t.arbiter = { budget := 0, committed := 0, highPtr := 15, lowPtr := 15, lowTurn := false, candidate := none,
                  stays := Vector.replicate 6 none } ∧
    (∀ c, (t.chan c).state = .offline ∧ (t.chan c).parked = none ∧ (t.chan c).attempt = none ∧
      (t.chan c).faultHeld = false ∧ (t.chan c).heat = none) ∧
    (∀ h, (t.head h).lane = none ∧ (t.head h).cls = .low ∧ (t.head h).masked = true ∧ (t.head h).stay = false ∧
      (t.head h).anticipation = 0 ∧ (t.head h).health.any = false ∧ (t.head h).temp = none ∧
      (t.head h).sensorTimer = none ∧ (t.head h).coolant = .ok ∧ (t.head h).cueLatch = false ∧
      (t.head h).coolUntil = none ∧ (t.head h).connected = none) ∧
    (∀ r, t.recipes.get r = { recipe := none, refs := 0 }) ∧ (∀ n, t.bindings.get n = none) ∧ t.family = 0 ∧
    t.defaults = { a := none, b := none } ∧
    (∀ l, (∀ k, t.order l k = none) ∧ (t.om l).postPtr = 0 ∧ (t.om l).released = 0 ∧ (t.om l).halted = [] ∧
      (t.om l).deadline = none ∧ (t.om l).policy = .autoSkip ∧ (t.om l).threshold = 0) ∧
    (∀ l, t.ring l = { records := [], reserved := 0, reader := .lane }) ∧
    t.faults = { inverter := .quench, matrix := .quench, headCoolant := .contain, severity := .clear,
                 cabinetLog := none, laneLogs := { a := none, b := none }, coolantFlow := false, busCurrent := false,
                 groundMonitor := false } ∧
    (∀ p, t.vector p = 0 ∧ (t.unit p).attention = false ∧ (t.unit p).pollMark = false) ∧
    (∀ p, (t.port p).rx = none ∧ (t.port p).inService = false ∧ (t.port p).linkFault = none)

/-- No command stops the module, and neither does an empty queue (log entry 27). -/
def Obligations.EveryStepAnswersNext : Prop :=
  (∀ (c : Instr) (s : State), ∃ t, exec c s = .next t) ∧ ∀ s : State, ∃ t, step s = .next t

/-! ## Links (chapter 10) -/

/-- R175: any frame that ends while a request is in service is dropped: the receive buffer has taken its bytes in,
LINK_FAULT is set with cause OVERRUN where it was clear, and nothing else changes. The in-service flag is cleared
when the answer has been sent. The model's choice (log entry 9): the buffer is empty again at that moment. The
model's choice (log entry 8): with nothing in service there is no such drop and no such end, and a frame that passes
the checks of R174 is no discard. -/
def Obligations.ServiceDropsFramesUntilAnswerIsSent : Prop :=
  (∀ (c : Instr) (p : Port) (f : List Byte) (s : State),
    ((∃ q, requestOf c = some q ∧ q.port = p ∧ f = requestFrame q.code q.tag q.payload) ∨
      (∃ e, c = .frameDiscard p f e) ∨ c = .frameDroppedOverrun ⟨p, f⟩) →
    (s.port p).inService = true →
    exec c s = .next (s.setPort p { s.port p with
      rx := some f, linkFault := some ((s.port p).linkFault.getD .overrun) })) ∧
  ∀ (p : Port) (s : State),
    ((s.port p).inService = true →
      exec (.answerSent p) s = .next (s.setPort p { s.port p with rx := none, inService := false })) ∧
    ((s.port p).inService = false → exec (.answerSent p) s = .next s ∧
      (∀ f, exec (.frameDroppedOverrun ⟨p, f⟩) s = .next s) ∧
      ∀ len body check, 2 ≤ len → len ≤ 252 → body.length = len → check.length = 2 →
        let bytes := BitVec.ofNat 8 len :: body
        beNat check = (checkOf bytes).toNat → exec (.frameDiscard p (0xC6 :: (bytes ++ check)) false) s = .next s)

/-- R174: a frame that ends with the port free and fails a check, in the order of the table, is discarded; the cause
is recorded where LINK_FAULT was clear, and nothing else changes. -/
def Obligations.BadFramesAreDiscarded : Prop :=
  ∀ (p : Port) (f : List Byte) (byteError : Bool) (s : State), (s.port p).inService = false →
    let discarded (cause : LinkCause) : State :=
      s.setPort p { s.port p with linkFault := some ((s.port p).linkFault.getD cause) }
    let len := (f.getD 1 0).toNat
    (byteError = true → exec (.frameDiscard p f byteError) s = .next (discarded .byteError)) ∧
    (byteError = false → (∃ b rest, f = b :: rest ∧ b ≠ 0xC6) →
      exec (.frameDiscard p f byteError) s = .next (discarded .startMark)) ∧
    (byteError = false → (f = [] ∨ ∃ rest, f = 0xC6 :: rest) →
      (f.length < 6 ∨ len < 2 ∨ 252 < len ∨ f.length ≠ len + 4) →
      exec (.frameDiscard p f byteError) s = .next (discarded .length)) ∧
    (∀ body check, byteError = false → f = 0xC6 :: (body ++ check) → check.length = 2 → 6 ≤ f.length → 2 ≤ len →
      len ≤ 252 → f.length = len + 4 → beNat check ≠ (checkOf body).toNat →
      exec (.frameDiscard p f byteError) s = .next (discarded .check))

/-- R177 steps 1 and 2 with R178 and the table of R181: a code outside the catalogue, or a payload of another length
than the request needs, is refused BAD_REQUEST from any port; a request of the right length from a port that may not
send it is refused NOT_PERMITTED. -/
def Obligations.CodeLengthAndPortAreChecked : Prop :=
  (∀ (p : Port) (code tag : Byte) (payload : List Byte) (s : State), code ∉ catalogue → s.takes ⟨p, code, tag, payload⟩ →
    exec (.unknownRequestCode p code tag payload) s = .next (s.answered ⟨p, code, tag, payload⟩ .badRequest [])) ∧
  ∀ (c : Instr) (q : Request) (s : State), requestOf c = some q → s.takes q → q.code ∈ catalogue →
    (q.payload.length ≠ q.neededLength → exec c s = .next (s.answered q .badRequest [])) ∧
    (q.payload.length = q.neededLength → q.mayBeSent = false → exec c s = .next (s.answered q .notPermitted []))

/-- R176, R177: a request that is taken is answered with its code and frame tag echoed; where the answer code is not
OK, the payload is empty and the answer is the only change. -/
def Obligations.RefusedRequestsChangeNothingElse : Prop :=
  ∀ (c : Instr) (q : Request) (s : State), requestOf c = some q → s.takes q →
    ∃ (code : AnswerCode) (payload : List Byte) (u : State), exec c s = .next (u.answered q code payload) ∧
      (code ≠ .ok → u = s ∧ payload = [])

/-- R180, R182: READ_STATUS answers the 244 bytes of the status as it stands and then clears its own port's
LINK_FAULT flag and cause; it changes nothing else. The model's choices, within the bytes of statusAnswer: those of
absent parts, of a lane without an active order (log entry 11), and the codes of the LINK_FAULT flag, the low-turn flag
and the dummy load selection (log entry 32). -/
def Obligations.ReadStatusAnswersAndClearsLinkFault : Prop :=
  ∀ (p : Port) (tag : Byte) (s : State), s.takes ⟨p, 0x01, tag, []⟩ →
    (statusAnswer s p).length = 244 ∧
    exec (.readStatus p tag []) s =
      .next ((s.setPort p { s.port p with linkFault := none }).answered ⟨p, 0x01, tag, []⟩ .ok (statusAnswer s p))

/-- R35, R41, R58, R124, R145: the reads answer OK with their layouts and change no state but the link's. The model's
choice (log entry 11): READ_HEAD and READ_BINDING send 0 in the bytes they leave unassigned. -/
def Obligations.ReadsChangeNothing : Prop :=
  ∀ (p : Port) (tag : Byte) (s : State) (n : Nat),
    (∀ r : RecipeId, s.takes ⟨p, 0x22, tag, be1 r.val⟩ → exec (.readRecipe p tag (be1 r.val)) s =
      .next (s.answered ⟨p, 0x22, tag, be1 r.val⟩ .ok (recipeAnswer r (s.recipes.get r)))) ∧
    (∀ b : BindingId, s.takes ⟨.supervisor, 0x26, tag, be1 b.val⟩ → exec (.readBinding .supervisor tag (be1 b.val)) s =
      .next (s.answered ⟨.supervisor, 0x26, tag, be1 b.val⟩ .ok (bindingAnswer s b))) ∧
    (∀ h : HeadId, s.takes ⟨p, 0x34, tag, be1 h.val⟩ → exec (.readHead p tag (be1 h.val)) s =
      .next (s.answered ⟨p, 0x34, tag, be1 h.val⟩ .ok (headAnswer s h))) ∧
    (s.takes ⟨.supervisor, 0x61, tag, []⟩ → exec (.readErrorLog .supervisor tag []) s =
      .next (s.answered ⟨.supervisor, 0x61, tag, []⟩ .ok (errorLogAnswer s.faults))) ∧
    (∀ l : Lane, 1 ≤ n → n ≤ 8 → s.takes ⟨p, 0x50, tag, [BitVec.ofNat 8 (laneNum l), BitVec.ofNat 8 n]⟩ →
      (p = readerPort l (s.ring l).reader →
        ∃ read : List Record, read <+: (s.ring l).records ∧ read.length ≤ n ∧ wordsOf read ≤ 120 ∧
          (∀ longer : List Record, longer <+: (s.ring l).records → longer.length ≤ n → wordsOf longer ≤ 120 →
            longer.length ≤ read.length) ∧
          exec (.readResults p tag [BitVec.ofNat 8 (laneNum l), BitVec.ofNat 8 n]) s =
            .next (s.answered ⟨p, 0x50, tag, [BitVec.ofNat 8 (laneNum l), BitVec.ofNat 8 n]⟩ .ok
              (resultsAnswer l (s.ring l) read))) ∧
      (p ≠ readerPort l (s.ring l).reader →
        exec (.readResults p tag [BitVec.ofNat 8 (laneNum l), BitVec.ofNat 8 n]) s =
          .next (s.answered ⟨p, 0x50, tag, [BitVec.ofNat 8 (laneNum l), BitVec.ofNat 8 n]⟩ .notReader [])))

/-! ## Events (chapter 9) -/

/-- R163, R166, R167: a poll reports the highest pending kind of its port with its context and then the pending
codes; a poll-cleared kind is no longer pending, SLOT_FREE stays with its mark set, a condition kind stays; nothing
else changes. -/
def Obligations.PollReportsHighestKind : Prop :=
  ∀ (p : Port) (tag : Byte) (s : State), s.takes ⟨p, 0x02, tag, []⟩ →
    ((∀ k ∈ kindsOf p, (s.unit p).isPending k = false) →
      exec (.pollEvent p tag []) s = .next (s.answered ⟨p, 0x02, tag, []⟩ .ok (pollAnswer 0 Context.none []))) ∧
    (∀ k ∈ kindsOf p, (s.unit p).isPending k = true →
      (∀ k' ∈ kindsOf p, (s.unit p).isPending k' = true → eventCode p k' ≤ eventCode p k) →
      ∃ u : EventUnit,
        (∀ x, k = .posted x → x ≠ .slotFree → u = (s.unit p).put x none) ∧
        (k = .posted .slotFree → u = { s.unit p with pollMark := true }) ∧
        (k = .orderHalted ∨ k = .resultsPending → u = s.unit p) ∧
        exec (.pollEvent p tag []) s =
          .next ((s.setUnit p u).answered ⟨p, 0x02, tag, []⟩ .ok
            (pollAnswer (eventCode p k) (s.contextOf p k) ((s.setUnit p u).pendingCodes p))))

/-- R168: SET_ATTENTION sets the port's enable and nothing else, in every mode; a code that is neither ENABLE nor
DISABLE is refused BAD_VALUE. The line is asserted exactly while the vector is not NONE and the enable is enabled.
-/
def Obligations.AttentionEnableAndLine : Prop :=
  (∀ (p : Port) (tag : Byte) (on : Bool) (s : State), s.takes ⟨p, 0x03, tag, be1 (bit on)⟩ →
    exec (.setAttention p tag (be1 (bit on))) s =
      .next ((s.setUnit p { s.unit p with attention := on }).answered ⟨p, 0x03, tag, be1 (bit on)⟩ .ok [])) ∧
  (∀ (p : Port) (tag v : Byte) (s : State), s.takes ⟨p, 0x03, tag, [v]⟩ → 1 < v.toNat →
    exec (.setAttention p tag [v]) s = .next (s.answered ⟨p, 0x03, tag, [v]⟩ .badValue [])) ∧
  ∀ (p : Port) (s : State), s.attentionLine p = true ↔ s.vector p ≠ 0 ∧ (s.unit p).attention = true

/-! ## Orders (chapter 1) -/

/-- R4: the checks of POST_ORDER from step 3 on, in their order, each with its code; a refusal is the only change.
-/
def Obligations.PostOrderChecksInOrder : Prop :=
  ∀ (p : Port) (l : Lane) (tag : Byte) (x : List Byte) (s : State), portLane p = some l → s.takes ⟨p, 0x10, tag, x⟩ →
    x.length = 11 + 2 * byteAt x 10 →
    let refused (code : AnswerCode) : Prop := exec (.postOrder p tag x) s = .next (s.answered ⟨p, 0x10, tag, x⟩ code [])
    let o := parsePost x
    let inRange : Prop := 1 ≤ byteAt x 10 ∧ byteAt x 10 ≤ 16 ∧ (∀ i < byteAt x 10, byteAt x (11 + 2 * i) < 16) ∧
      (o.deadline = 0 ∨ 100 ≤ o.deadline ∧ o.deadline ≤ 60000)
    let free : Prop := s.order l (s.om l).postPtr = none
    (¬ inRange → refused .badValue) ∧
    (inRange → s.mode = .unconfigured → refused .unconfigured) ∧
    (inRange → s.mode = .quenched → refused .quenched) ∧
    (inRange → s.mode ≠ .unconfigured → s.mode ≠ .quenched →
      (¬ free → refused .noSlot) ∧
      (free → s.resolve l o.code = none → refused .unboundType) ∧
      ∀ b, free → s.resolve l o.code = some b →
        ((∃ j ∈ o.joints, b.classMap.get j.cls = none) → refused .classUnmapped) ∧
        ((∀ j ∈ o.joints, (b.classMap.get j.cls).isSome) →
          ((∃ j ∈ o.joints, (s.recipes.get (recipeOf b j)).recipe = none) → refused .recipeEmpty) ∧
          ((∀ j ∈ o.joints, (s.recipes.get (recipeOf b j)).recipe.isSome) →
            (∃ j ∈ o.joints, (s.head (Fin.ofNat 16 j.head)).lane ≠ some l) → refused .headNotLane)))

/-- R1, R2, R5: an accepted POST_ORDER fills the slot of the post pointer with the POSTED order and its PENDING
joints, adds one reference for each distinct recipe, advances the pointer and reports the post; SLOT_FREE is cleared
where its mark was set or no slot of the lane is FREE any more. Nothing else changes. -/
def Obligations.PostOrderStoresOrder : Prop :=
  ∀ (p : Port) (l : Lane) (tag : Byte) (x : List Byte) (b : Binding) (s : State), portLane p = some l →
    s.takes ⟨p, 0x10, tag, x⟩ → x.length = 11 + 2 * byteAt x 10 →
    let o := parsePost x
    let k := (s.om l).postPtr
    o.valuesOk = true → s.mode ≠ .unconfigured → s.mode ≠ .quenched → s.order l k = none →
    s.resolve l o.code = some b → (∀ j ∈ o.joints, (b.classMap.get j.cls).isSome) →
    (∀ j ∈ o.joints, (s.recipes.get (recipeOf b j)).recipe.isSome) →
    (∀ j ∈ o.joints, (s.head (Fin.ofNat 16 j.head)).lane = some l) →
    ∃ (u : State) (new : Order), exec (.postOrder p tag x) s = .next (u.answered ⟨p, 0x10, tag, x⟩ .ok (be1 k.val)) ∧
      new.tag = o.tag ∧ new.code = o.code ∧ new.deadline = o.deadline ∧ new.state = .posted ∧
      new.joints = o.joints.map (fun (j : PostedJoint) =>
        { head := Fin.ofNat 16 j.head, cls := j.cls, cue := j.cue, recipe := recipeOf b j, state := .pending,
          attempts := 0, outcome := none }) ∧
      new.recipes.Nodup ∧ (∀ r, r ∈ new.recipes ↔ ∃ j ∈ o.joints, recipeOf b j = r) ∧
      new.late = false ∧ new.discard = false ∧ new.abort = false ∧ new.nearDone = false ∧ new.proof = false ∧
      (∀ m n, u.order m n = if m = l ∧ n = k then some new else s.order m n) ∧
      (∀ m, u.om m = { s.om m with slots := (u.om m).slots, postPtr := if m = l then k + 1 else (s.om m).postPtr }) ∧
      (∀ r, u.recipes.get r = { s.recipes.get r with
        refs := (s.recipes.get r).refs + if r ∈ new.recipes then 1 else 0 }) ∧
      (∀ q, u.unit q = if q = lanePort l then
          { s.unit q with
            slotFree := if (s.unit q).pollMark = true ∨ ∀ n, (u.order l n).isSome then none else (s.unit q).slotFree
            pollMark := false }
        else s.unit q) ∧
      u.ports = s.ports ∧ u.heads = s.heads ∧ u.channels = s.channels ∧ u.arbiter = s.arbiter ∧ u.rings = s.rings ∧
      u.faults = s.faults ∧ u.cabinet = s.cabinet ∧ u.bindings = s.bindings ∧ u.family = s.family ∧
      u.defaults = s.defaults

/-- R39 steps 1 and 2 and the answer "no binding" of step 3: a binding that holds the code is used; else the lane's
default, where the code's family flag is set and the default is not EMPTY; else none. -/
def Obligations.TypeCodesResolveByTheirSteps : Prop :=
  ∀ (s : State) (l : Lane) (code : TypeCode),
    ((∃ n b, s.bindings.get n = some b ∧ b.code = code) →
      ∃ n b, s.bindings.get n = some b ∧ b.code = code ∧ s.resolve l code = some b) ∧
    ((¬ ∃ n b, s.bindings.get n = some b ∧ b.code = code) →
      (∀ n b, s.family.getLsbD (groupOf code) = true → s.defaults.get l = some n → s.bindings.get n = some b →
        s.resolve l code = some b) ∧
      ((s.family.getLsbD (groupOf code) = false ∨ s.defaults.get l = none ∨
        ∃ n, s.defaults.get l = some n ∧ s.bindings.get n = none) → s.resolve l code = none))

/-- R6: RELEASE raises the released count by one, tries activation and answers OK, unless every POSTED order is
already released, when it is refused RANGE. -/
def Obligations.ReleaseRaisesCountUpToPosted : Prop :=
  ∀ (p : Port) (l : Lane) (tag : Byte) (s : State), portLane p = some l → s.takes ⟨p, 0x11, tag, []⟩ →
    let refused (code : AnswerCode) : Prop := exec (.release p tag []) s = .next (s.answered ⟨p, 0x11, tag, []⟩ code [])
    (s.mode = .unconfigured → refused .unconfigured) ∧ (s.mode = .quenched → refused .quenched) ∧
    (s.mode ≠ .unconfigured → s.mode ≠ .quenched →
      ((s.postedOrders l).length ≤ (s.om l).released → refused .range) ∧
      ((s.om l).released < (s.postedOrders l).length →
        exec (.release p tag []) s =
          .next (((s.setOm l { s.om l with released := (s.om l).released + 1 }).tryActivation l).arbitrate.answered
            ⟨p, 0x11, tag, []⟩ .ok [])))

/-- R7 to R9: where the four conditions hold, the oldest POSTED order activates: its completion record is reserved,
the released count falls, the deadline starts, joints on flagged heads take SKIPPED_HEAD, and no front joint stays
PENDING: a PENDING front joint with its cue flag set goes CUE_WAIT where the head's cue latch is clear, else it goes
READY and consumes the latch; one without goes READY and leaves the latch. No other joint changes. The NEAR_DONE test
is made on the outcomes given. With a joint left without an outcome, that is all the lane's Order Manager does; with
none left, the order completes at once, NORMAL unless a flag was set while it was POSTED, with the record, the free slot
and the postings of R12, and the next released order is tried. The model's choice (log entry 30): the record holds the
type code. -/
def Obligations.ActivationStartsOldestPostedOrder : Prop :=
  ∀ (l : Lane) (k : SlotId) (o : Order) (s : State), s.active l = none → 0 < (s.om l).released →
    s.mode = .live ∨ s.mode = .proof → s.oldestPosted l = some (k, o) → 6 + o.joints.length ≤ (s.ring l).free →
    exec (.activation l) s = .next (s.tryActivation l).arbitrate ∧
    ∃ (u : State) (o' : Order),
      (o'.allDone = false → s.tryActivation l = u) ∧
      (o'.allDone = true → ∃ v : State, s.tryActivation l = v.tryActivation l ∧
        (v.ring l).records = (s.ring l).records ++ [.completion
          { lane := l, slot := k, tag := o.tag, code := o.code, proof := o.proof, time := s.now
            kind := if o.abort then .aborted else if o.discard then .discarded else if o.late then .late else .normal
            joints := o'.joints.map fun j => (j.outcome.getD .notRun, j.attempts) }] ∧
        (v.ring l).reserved = (s.ring l).reserved ∧ (v.om l).deadline = none ∧ (v.om l).halted = [] ∧
        (v.om l).released = (s.om l).released - 1 ∧ (v.om l).postPtr = (s.om l).postPtr ∧
        (∀ m n, v.order m n = if m = l ∧ n = k then none else s.order m n) ∧
        (∀ i, v.recipes.get i = { s.recipes.get i with
          refs := (s.recipes.get i).refs - if i ∈ o.recipes then 1 else 0 }) ∧
        (v.unit (lanePort l)).orderDone = some { lane := some l, slot := some k, tag := some o.tag, head := none } ∧
        (v.unit (lanePort l)).slotFree = some { lane := some l, slot := some k, tag := none, head := none } ∧
        (v.unit (lanePort l)).pollMark = false ∧ (v.unit (lanePort l)).halted = false ∧
        (v.unit (lanePort l)).nearDone = (u.unit (lanePort l)).nearDone ∧
        v.heads = s.heads ∧ v.channels = s.channels ∧ v.arbiter = s.arbiter ∧ v.faults = s.faults ∧
        v.cabinet = s.cabinet ∧ v.ports = s.ports) ∧
      u.order l k = some o' ∧ o'.state = .running ∧ o'.tag = o.tag ∧ o'.code = o.code ∧ o'.recipes = o.recipes ∧
      o'.late = o.late ∧ o'.discard = o.discard ∧ o'.abort = o.abort ∧ o'.proof = o.proof ∧
      (let due : Prop := 0 < (s.om l).threshold ∧ o.nearDone = false ∧
          (s.om l).threshold * o.joints.length ≤ 16 * (o'.joints.filter fun j => j.outcome.isSome).length
       (due → o'.nearDone = true ∧ ∀ p, u.unit p = if p = lanePort l then { s.unit p with
          nearDone := some { lane := some l, slot := some k, tag := some o.tag, head := none } } else s.unit p) ∧
       (¬ due → o'.nearDone = o.nearDone ∧ u.units = s.units)) ∧
      o'.joints.length = o.joints.length ∧
      (∀ (i : Nat) (j : Joint), o.joints[i]? = some j → ∃ j' : Joint, o'.joints[i]? = some j' ∧ j'.head = j.head ∧ j'.attempts = j.attempts ∧
        ((s.head j.head).health.any = true → j'.state = .done ∧ j'.outcome = some .skippedHead) ∧
        ((s.head j.head).health.any = false → j'.outcome = j.outcome ∧
          ((∀ x, o'.front j.head ≠ some (i, x)) → j' = j))) ∧
      (∀ h i j, o'.front h = some (i, j) → j.state ≠ .pending) ∧
      (∀ h i j x, o'.front h = some (i, j) → o.joints[i]? = some x →
        (x.state ≠ .pending → j = x ∧ u.head h = s.head h) ∧
        (x.state = .pending →
          j = { x with state := if x.cue = true ∧ (s.head h).cueLatch = false then .cueWait else .ready } ∧
          u.head h = { s.head h with cueLatch := (s.head h).cueLatch && !x.cue })) ∧
      (∀ h, o'.front h = none → u.head h = s.head h) ∧
      (u.ring l).reserved = (s.ring l).reserved + 6 + o.joints.length ∧ (u.ring l).records = (s.ring l).records ∧
      (u.om l).released = (s.om l).released - 1 ∧
      (u.om l).deadline = (if o.deadline = 0 then none else some o.deadline) ∧
      (∀ n, n ≠ k → u.order l n = s.order l n) ∧ (∀ m, m ≠ l → u.om m = s.om m ∧ u.ring m = s.ring m) ∧
      (∀ h, u.head h = { s.head h with cueLatch := (u.head h).cueLatch }) ∧
      u.channels = s.channels ∧ u.arbiter = s.arbiter ∧ u.recipes = s.recipes ∧ u.faults = s.faults ∧
      u.cabinet = s.cabinet ∧ u.ports = s.ports

/-- R11, R12: an order completes when every joint has its outcome: the completion record joins the ring out of its
reservation, the deadline stops, the slot becomes FREE, the references fall, and ORDER_DONE and SLOT_FREE are posted
with their contexts; then the next released order is tried. Until then the check changes nothing. The model's
choices: the candidate is judged before the next order is tried (log entry 16), and the record holds the type code
(log entry 30). -/
def Obligations.CompletionFreesSlotWithRecord : Prop :=
  ∀ (l : Lane) (k : SlotId) (o : Order) (s : State), s.active l = some (k, o) →
    (o.allDone = false → s.completionCheck l = s) ∧
    (o.allDone = true → ∃ (u : State) (r : CompletionRecord),
      s.completionCheck l = u.dropCandidate.tryActivation l ∧
      r.lane = l ∧ r.slot = k ∧ r.tag = o.tag ∧ r.code = o.code ∧ r.proof = o.proof ∧ r.time = s.now ∧
      r.kind = (if o.abort then .aborted else if o.discard then .discarded else if o.late then .late else .normal) ∧
      r.joints.length = o.joints.length ∧
      (∀ (i : Nat) (j : Joint) (out : JointOutcome), o.joints[i]? = some j → j.outcome = some out →
        r.joints[i]? = some (out, j.attempts)) ∧
      (u.ring l).records = (s.ring l).records ++ [.completion r] ∧
      (u.ring l).reserved = (s.ring l).reserved - (6 + o.joints.length) ∧
      (u.om l).deadline = none ∧ (u.om l).halted = [] ∧ (u.om l).postPtr = (s.om l).postPtr ∧
      (∀ m n, u.order m n = if m = l ∧ n = k then none else s.order m n) ∧
      (∀ i, u.recipes.get i = { s.recipes.get i with
        refs := (s.recipes.get i).refs - if i ∈ o.recipes then 1 else 0 }) ∧
      (u.unit (lanePort l)).orderDone = some { lane := some l, slot := some k, tag := some o.tag, head := none } ∧
      (u.unit (lanePort l)).slotFree = some { lane := some l, slot := some k, tag := none, head := none } ∧
      (u.unit (lanePort l)).pollMark = false ∧ (u.unit (lanePort l)).halted = false ∧
      u.heads = s.heads ∧ u.channels = s.channels ∧ u.arbiter = s.arbiter ∧ u.faults = s.faults ∧
      u.cabinet = s.cabinet ∧ u.ports = s.ports)

/-- R16: the near-done test: with a threshold above 0, the flag clear, and 16 × outcomes at least threshold ×
joints, the flag is set and NEAR_DONE is posted with the order's context; otherwise nothing changes. -/
def Obligations.NearDoneIsPostedOnce : Prop :=
  ∀ (l : Lane) (k : SlotId) (o : Order) (s : State), s.active l = some (k, o) →
    let due : Prop := 0 < (s.om l).threshold ∧ o.nearDone = false ∧
      (s.om l).threshold * o.joints.length ≤ 16 * (o.joints.filter fun j => j.outcome.isSome).length
    (due → s.nearDoneTest l = (s.setSlot l k (some { o with nearDone := true })).post (lanePort l) .nearDone
      { lane := some l, slot := some k, tag := some o.tag, head := none }) ∧
    (¬ due → s.nearDoneTest l = s)

/-- R17: DISCARD sets the flag, stops the deadline, gives every joint that is not in an attempt its outcome and
empties the halted-joint list, and an order that was HALTED is reported not halted (R165); then the order completes
if it can. A second DISCARD changes nothing; without an active order it is refused NO_ACTIVE. -/
def Obligations.DiscardWindsOrderDown : Prop :=
  ∀ (p : Port) (l : Lane) (tag : Byte) (s : State), portLane p = some l → s.takes ⟨p, 0x13, tag, []⟩ →
    s.mode ≠ .unconfigured → s.mode ≠ .quenched →
    (s.active l = none → exec (.discard p tag []) s = .next (s.answered ⟨p, 0x13, tag, []⟩ .noActive [])) ∧
    ∀ k o, s.active l = some (k, o) →
      (o.discard = true → exec (.discard p tag []) s = .next (s.answered ⟨p, 0x13, tag, []⟩ .ok [])) ∧
      (o.discard = false → ∃ u : State,
        exec (.discard p tag []) s = .next ((u.completionCheck l).arbitrate.answered ⟨p, 0x13, tag, []⟩ .ok []) ∧
        (∀ m n, u.order m n = if m = l ∧ n = k then
          some { o with discard := true, state := .running, joints := o.joints.map (settledJoint .notRun) }
          else s.order m n) ∧
        (u.om l).deadline = none ∧ (u.om l).halted = [] ∧ (u.om l).released = (s.om l).released ∧
        (∀ q, u.unit q = if q = p ∧ o.state = .halted then { s.unit q with halted := false } else s.unit q) ∧
        (∀ c, u.stay c = (s.stay c).filter fun h => (s.head h).lane != some l) ∧
        u.heads = s.heads ∧ u.channels = s.channels ∧ u.rings = s.rings ∧ u.recipes = s.recipes ∧
        u.faults = s.faults ∧ u.cabinet = s.cabinet ∧ u.ports = s.ports)

/-- R18, R19: ABORT_ORDER naming the active order sets the abort flag, stops the deadline, cuts every attempt in
HEATING of the order (its joint takes ABORTED, its channel goes IDLE where it is parked), marks every move of the
order abandoned, and gives the other joints NOT_RUN or UNDERHEAT; an order that was HALTED is reported not halted
(R165); then the order completes if it can. Each cut attempt
writes its joint record, result ABORTED and last entry CUT, into its reservation, or with the discard flag set the
reservation is returned, and its peak leaves committed power. A second abort changes nothing. The model's choices: the
other joints take their outcomes before the cuts, and no head is touched: no cool-until starts and no joint reaches the
front, and no stay reservation is judged for a cut attempt (log entry 13); the records stand in channel order (log
entry 28); the energy of the cut segment is free within
power times maximum time (log entry 5). -/
def Obligations.AbortCutsActiveOrder : Prop :=
  ∀ (p : Port) (l : Lane) (tag : Byte) (k : SlotId) (o : Order) (s : State), portLane p = some l →
    s.takes ⟨p, 0x12, tag, be1 k.val⟩ → s.mode ≠ .unconfigured → s.order l k = some o → o.state ≠ .posted →
    (o.abort = true → exec (.abortOrder p tag (be1 k.val)) s = .next (s.answered ⟨p, 0x12, tag, be1 k.val⟩ .ok [])) ∧
    (o.abort = false →
     let cuts (c : ChannelId) : Bool := (s.chan c).state == .heating &&
       (s.chan c).attempt.any fun a => a.lane == l && a.slot == k
     let total (f : Attempt → Nat) : Nat :=
       ((allChannels.filter cuts).map fun c => ((s.chan c).attempt.map f).getD 0).sum
     ∃ (u : State) (o' : Order),
      exec (.abortOrder p tag (be1 k.val)) s =
        .next ((u.completionCheck l).arbitrate.answered ⟨p, 0x12, tag, be1 k.val⟩ .ok []) ∧
      u.order l k = some o' ∧ o'.abort = true ∧ o'.tag = o.tag ∧ o'.discard = o.discard ∧ o'.late = o.late ∧
      o'.joints.length = o.joints.length ∧
      (∀ (i : Nat) (j : Joint), o.joints[i]? = some j →
        ((∃ c a, (s.chan c).attempt = some a ∧ (s.chan c).state = .heating ∧ a.lane = l ∧ a.slot = k ∧ a.joint = i) →
          ∃ j' : Joint, o'.joints[i]? = some j' ∧ j'.state = .done ∧ j'.outcome = some .aborted) ∧
        ((¬ ∃ c a, (s.chan c).attempt = some a ∧ (s.chan c).state = .heating ∧ a.lane = l ∧ a.slot = k ∧
            a.joint = i) → o'.joints[i]? = some (settledJoint .notRun j))) ∧
      (∀ c, (¬ ∃ a, (s.chan c).attempt = some a ∧ a.lane = l ∧ a.slot = k) → u.chan c = s.chan c) ∧
      (∀ c a, (s.chan c).attempt = some a → a.lane = l → a.slot = k →
        ((s.chan c).state = .heating → (u.chan c).state = .idle ∧ (u.chan c).attempt = none ∧
          (u.chan c).parked = (s.chan c).parked) ∧
        ((s.chan c).state ≠ .heating → u.chan c = { s.chan c with attempt := some { a with abandoned := true } })) ∧
      (u.om l).deadline = none ∧ (u.om l).halted = [] ∧
      (u.unit (lanePort l)).halted = (if o.state = .halted then false else (s.unit (lanePort l)).halted) ∧
      u.arbiter.committed = s.arbiter.committed - total (·.peak) ∧
      (∀ c, u.stay c = (s.stay c).filter fun h => (s.head h).lane != some l) ∧
      u.arbiter.budget = s.arbiter.budget ∧ u.arbiter.candidate = s.arbiter.candidate ∧
      (u.ring l).reserved = (s.ring l).reserved - total (fun a => 8 + 2 * (s.recipe a.recipe).segments.length) ∧
      (u.ring l).reader = (s.ring l).reader ∧ (∀ m, m ≠ l → u.ring m = s.ring m) ∧
      (o.discard = true → (u.ring l).records = (s.ring l).records) ∧
      (o.discard = false → ∃ rs : List JointRecord,
        (u.ring l).records = (s.ring l).records ++ rs.map Record.joint ∧
        rs.map (·.channel) = allChannels.filter cuts ∧
        ∀ r ∈ rs, r.lane = l ∧ r.slot = k ∧ r.tag = o.tag ∧ r.result = .aborted ∧ r.time = s.now ∧
          ∀ a, (s.chan r.channel).attempt = some a →
            r.joint = a.joint ∧ r.head = a.head ∧ r.recipe = a.recipe ∧ r.number = a.number ∧ r.proof = a.proof ∧
            r.places = (s.recipe a.recipe).segments.length ∧
            ∀ w g, (s.chan r.channel).heat = some w → (s.recipe a.recipe).segments[w.segment - 1]? = some g →
              w.energy ≤ r.energy ∧ r.energy ≤ w.energy + g.power * g.maxTime / 1000 ∧ r.peakTemp = w.peakTemp ∧
              r.heatTime = (s.now - w.start).toNat ∧ r.entries = w.entries ++ [⟨.cut, (s.now - w.segStart).toNat⟩]) ∧
      (∀ m n, (m ≠ l ∨ n ≠ k) → u.order m n = s.order m n) ∧
      u.heads = s.heads ∧ u.recipes = s.recipes ∧ u.faults = s.faults ∧ u.cabinet = s.cabinet ∧ u.ports = s.ports)

/-- R18, R21: ABORT_ORDER naming a POSTED order is a withdrawal: refused RING_FULL where its record does not fit;
otherwise the WITHDRAWN record (every joint NOT_RUN, attempt 0) joins the ring with reserved words unchanged, a
released order takes its release with it, the slot becomes FREE, the references fall, and ORDER_DONE and SLOT_FREE
are posted. A FREE slot is refused NO_ACTIVE. The model's choices: activation is tried after a withdrawal (log entry
15), and the record holds the type code (log entry 30). -/
def Obligations.WithdrawalRecordsPostedOrder : Prop :=
  ∀ (p : Port) (l : Lane) (tag : Byte) (k : SlotId) (s : State), portLane p = some l →
    s.takes ⟨p, 0x12, tag, be1 k.val⟩ → s.mode ≠ .unconfigured →
    let refused (code : AnswerCode) : Prop :=
      exec (.abortOrder p tag (be1 k.val)) s = .next (s.answered ⟨p, 0x12, tag, be1 k.val⟩ code [])
    (s.order l k = none → refused .noActive) ∧
    ∀ o, s.order l k = some o → o.state = .posted →
      ((s.ring l).free < 6 + o.joints.length → refused .ringFull) ∧
      (6 + o.joints.length ≤ (s.ring l).free → ∃ u : State,
        exec (.abortOrder p tag (be1 k.val)) s =
          .next ((u.tryActivation l).arbitrate.answered ⟨p, 0x12, tag, be1 k.val⟩ .ok []) ∧
        (u.ring l).records = (s.ring l).records ++ [.completion
          { lane := l, slot := k, tag := o.tag, code := o.code, kind := .withdrawn, proof := false,
            time := s.now,
            joints := o.joints.map fun _ => (.notRun, 0) }] ∧
        (u.ring l).reserved = (s.ring l).reserved ∧ (u.ring l).reader = (s.ring l).reader ∧
        (u.om l).released = (if ((s.postedOrders l).take (s.om l).released).any (fun x => x.1 == k)
          then (s.om l).released - 1 else (s.om l).released) ∧
        (u.om l).postPtr = (s.om l).postPtr ∧
        (∀ m n, u.order m n = if m = l ∧ n = k then none else s.order m n) ∧
        (∀ i, u.recipes.get i = { s.recipes.get i with
          refs := (s.recipes.get i).refs - if i ∈ o.recipes then 1 else 0 }) ∧
        (u.unit (lanePort l)).orderDone = some { lane := some l, slot := some k, tag := some o.tag, head := none } ∧
        (u.unit (lanePort l)).slotFree = some { lane := some l, slot := some k, tag := none, head := none } ∧
        u.heads = s.heads ∧ u.channels = s.channels ∧ u.arbiter = s.arbiter ∧ u.faults = s.faults ∧
        u.cabinet = s.cabinet ∧ u.ports = s.ports)

/-- R23: SET_LANE_POLICY replaces both fields of the lane's policy and nothing else; it is refused ACTIVE while the
lane has an active order, and it is accepted in QUENCHED. -/
def Obligations.LanePolicyIsReplaced : Prop :=
  ∀ (p : Port) (l : Lane) (tag : Byte) (policy : Policy) (n : Nat) (s : State), portLane p = some l → n ≤ 15 →
    let x := be1 policy.num ++ be1 n
    s.takes ⟨p, 0x14, tag, x⟩ → s.mode ≠ .unconfigured →
    (s.active l = none → exec (.setLanePolicy p tag x) s =
      .next ((s.setOm l { s.om l with policy := policy, threshold := n }).answered ⟨p, 0x14, tag, x⟩ .ok [])) ∧
    ((s.active l).isSome → exec (.setLanePolicy p tag x) s = .next (s.answered ⟨p, 0x14, tag, x⟩ .active []))

/-- R25, R26: LANE_RESET, from the lane's port or from the supervisor naming the lane, in every mode: the lane's
slots, pointer, released count, deadline and halted list are cleared with no record and its orders' references
removed; its attempts are removed and their committed power released; a candidate of the lane is dropped; its ring
is emptied, which ends RESULTS_PENDING for it at its reader; its heads lose latch and cool-until; its unit's events
are cleared; the other lane is not touched. Then the arbiter acts. -/
def Obligations.LaneResetClearsOneLane : Prop :=
  ∀ (p : Port) (l : Lane) (tag : Byte) (x : List Byte) (s : State), s.takes ⟨p, 0x15, tag, x⟩ →
    (portLane p = some l ∧ x = []) ∨ (p = .supervisor ∧ x = be1 (laneNum l)) →
    ∃ u : State, exec (.laneReset p tag x) s = .next (u.arbitrate.answered ⟨p, 0x15, tag, x⟩ .ok []) ∧
      (∀ k, u.order l k = none) ∧ (u.om l).postPtr = 0 ∧ (u.om l).released = 0 ∧ (u.om l).halted = [] ∧
      (u.om l).deadline = none ∧ (u.om l).policy = (s.om l).policy ∧ (u.om l).threshold = (s.om l).threshold ∧
      u.ring l = { records := [], reserved := 0, reader := (s.ring l).reader } ∧
      (∀ h, u.head h = if (s.head h).lane = some l then { s.head h with cueLatch := false, coolUntil := none }
        else s.head h) ∧
      (∀ c, u.chan c = match (s.chan c).attempt with
        | none => s.chan c
        | some a => if a.lane ≠ l then s.chan c
          else if (s.chan c).state = .heating then
            { s.chan c with state := .idle, attempt := none, moveTimer := none, heat := none }
          else { s.chan c with attempt := none }) ∧
      (∀ c, u.stay c = (s.stay c).filter fun h => (s.head h).lane != some l) ∧
      (∀ k ∈ kindsOf (lanePort l), (u.unit (lanePort l)).isPending k = false) ∧
      (u.unit (lanePort l)).attention = (s.unit (lanePort l)).attention ∧
      (∀ r, u.recipes.get r = { s.recipes.get r with
        refs := (s.recipes.get r).refs -
          (allSlots.filter fun k => (s.order l k).any fun o => o.recipes.contains r).length }) ∧
      u.arbiter = { s.arbiter with
        committed := s.arbiter.committed -
          (allChannels.map fun c => ((s.chan c).attempt.map fun a => if a.lane = l then a.peak else 0).getD 0).sum
        candidate := s.arbiter.candidate.filter fun h => (s.head h).lane != some l
        stays := u.arbiter.stays } ∧
      u.unit .supervisor = (if (s.ring l).reader = .supervisor then
        { s.unit .supervisor with results := (s.unit .supervisor).results.set l false } else s.unit .supervisor) ∧
      (∀ m, m ≠ l → u.om m = s.om m ∧ u.ring m = s.ring m ∧ u.unit (lanePort m) = s.unit (lanePort m)) ∧
      u.bindings = s.bindings ∧ u.faults = s.faults ∧ u.cabinet = s.cabinet ∧ u.ports = s.ports

/-- R13, R14: the expiry of a running deadline (which first lets its remaining time pass, log entry 2) sets the late
flag, treats every joint by the table, empties the halted-joint list and posts ORDER_LATE, and an order that was
HALTED is reported not halted (R165); then the near-done test and the completion check. A stopped timer does not
expire. -/
def Obligations.DeadlineExpiryTreatsEveryJoint : Prop :=
  ∀ (l : Lane) (s : State),
    ((s.om l).deadline = none → exec (.deadlineExpiry l) s = .next s) ∧
    ∀ left k o, (s.om l).deadline = some left → s.active l = some (k, o) →
      let e := s.elapse left
      ∃ u : State, exec (.deadlineExpiry l) s = .next ((u.nearDoneTest l).completionCheck l).arbitrate ∧
        (∀ m n, u.order m n = if m = l ∧ n = k then
          some { o with late := true, state := .running, joints := o.joints.map (settledJoint .skippedLate) }
          else s.order m n) ∧
        (u.om l).deadline = none ∧ (u.om l).halted = [] ∧
        (∀ q, u.unit q = if q = lanePort l then { s.unit q with
            orderLate := some { lane := some l, slot := some k, tag := some o.tag, head := none }
            halted := if o.state = .halted then false else (s.unit q).halted } else s.unit q) ∧
        (∀ c, u.stay c = (s.stay c).filter fun h => (s.head h).lane != some l) ∧
        u.heads = e.heads ∧ u.channels = e.channels ∧ u.rings = s.rings ∧ u.recipes = s.recipes ∧
        u.faults = s.faults ∧ u.cabinet = e.cabinet ∧ u.ports = s.ports

/-! ## Recipes and bindings (chapter 2) -/

/-- R29 to R32: a recipe number, a segment count, an overtemperature limit, a post-dwell, an allowance or a segment
field out of range, a required segment without a target, or a temperature target that is not below the limit is
refused BAD_VALUE. With a reference count of 0, WRITE_RECIPE stores the whole recipe with its greatest power as the
peak and answers the peak, where it is not above the bus ceiling, and CLEAR_RECIPE empties it; with a count above 0
both are refused IN_USE. Nothing else changes. -/
def Obligations.RecipesAreWrittenWhileUnreferenced : Prop :=
  ∀ (r : RecipeId) (tag : Byte) (x : List Byte) (s : State),
    (s.takes ⟨.supervisor, 0x20, tag, x⟩ → x.length = 7 + 9 * byteAt x 6 →
      let limit := pairAt x 1
      let inRange : Prop := byteAt x 0 < 32 ∧ 1 ≤ byteAt x 6 ∧ byteAt x 6 ≤ 8 ∧ 300 ≤ limit ∧ limit ≤ 950 ∧
        pairAt x 3 ≤ 5000 ∧ byteAt x 5 ≤ 3 ∧ ∀ i < byteAt x 6,
          let power := pairAt x (7 + 9 * i)
          let maxTime := pairAt x (9 + 9 * i)
          let temp := pairAt x (11 + 9 * i)
          let energy := pairAt x (13 + 9 * i)
          power ≤ 350 ∧ 10 ≤ maxTime ∧ maxTime ≤ 30000 ∧ (temp = 0 ∨ 200 ≤ temp ∧ temp ≤ 900 ∧ temp < limit) ∧
          energy ≤ 5000 ∧ ((byteAt x (15 + 9 * i)).testBit 0 = true → temp ≠ 0 ∨ energy ≠ 0)
      (inRange ↔ (parseRecipe x).valuesOk = true) ∧
      (¬ inRange →
        exec (.writeRecipe .supervisor tag x) s = .next (s.answered ⟨.supervisor, 0x20, tag, x⟩ .badValue []))) ∧
    (s.takes ⟨.supervisor, 0x20, tag, x⟩ → x.length = 7 + 9 * byteAt x 6 → (parseRecipe x).valuesOk = true →
      byteAt x 0 = r.val → s.mode ≠ .unconfigured → s.mode ≠ .quenched →
      let y := parseRecipe x
      let peak := y.segments.foldl (fun a g => max a g.power) 0
      let entry : RecipeEntry :=
        { recipe := some { segments := y.segments, overtemp := y.overtemp, postDwell := y.postDwell,
                           allowance := y.allowance, peak := peak }, refs := 0 }
      (0 < (s.recipes.get r).refs →
        exec (.writeRecipe .supervisor tag x) s = .next (s.answered ⟨.supervisor, 0x20, tag, x⟩ .inUse [])) ∧
      ((s.recipes.get r).refs = 0 → ∀ u, s.cabinet.setup = some u →
        (u.ceiling * 10 < peak →
          exec (.writeRecipe .supervisor tag x) s = .next (s.answered ⟨.supervisor, 0x20, tag, x⟩ .badValue [])) ∧
        (peak ≤ u.ceiling * 10 →
          exec (.writeRecipe .supervisor tag x) s = .next
            (({ s with recipes := s.recipes.set r entry } : State).answered
              ⟨.supervisor, 0x20, tag, x⟩ .ok (be2 peak))))) ∧
    (s.takes ⟨.supervisor, 0x21, tag, be1 r.val⟩ → s.mode ≠ .unconfigured →
      (0 < (s.recipes.get r).refs → exec (.clearRecipe .supervisor tag (be1 r.val)) s =
        .next (s.answered ⟨.supervisor, 0x21, tag, be1 r.val⟩ .inUse [])) ∧
      ((s.recipes.get r).refs = 0 → exec (.clearRecipe .supervisor tag (be1 r.val)) s =
        .next (({ s with recipes := s.recipes.set r { recipe := none, refs := 0 } } : State).answered
          ⟨.supervisor, 0x21, tag, be1 r.val⟩ .ok [])))

/-- R36 to R38: WRITE_BINDING stores the code and the class map unless another binding holds the code
(DUPLICATE_TYPE), CLEAR_BINDING empties the binding, SET_FAMILY replaces the whole set and both defaults. Nothing
else changes. -/
def Obligations.BindingTableIsWritten : Prop :=
  ∀ (n : BindingId) (tag : Byte) (x : List Byte) (s : State), s.mode ≠ .unconfigured →
    (s.takes ⟨.supervisor, 0x23, tag, x⟩ → x.length = 15 → byteAt x 0 = n.val →
      (∀ i < 8, byteAt x (7 + i) < 32 ∨ byteAt x (7 + i) = 0xFF) → s.mode ≠ .quenched →
      let entry (i : Fin 8) : Option RecipeId :=
        if byteAt x (7 + i.val) = 0xFF then none else some (Fin.ofNat 32 (byteAt x (7 + i.val)))
      ((∃ m b, m ≠ n ∧ s.bindings.get m = some b ∧ b.code = codeAt x 1) →
        exec (.writeBinding .supervisor tag x) s = .next (s.answered ⟨.supervisor, 0x23, tag, x⟩ .duplicateType [])) ∧
      ((¬ ∃ m b, m ≠ n ∧ s.bindings.get m = some b ∧ b.code = codeAt x 1) →
        exec (.writeBinding .supervisor tag x) s =
          .next (({ s with bindings := s.bindings.set n (some ⟨codeAt x 1, tabulate entry⟩) } : State).answered
            ⟨.supervisor, 0x23, tag, x⟩ .ok []))) ∧
    (s.takes ⟨.supervisor, 0x24, tag, be1 n.val⟩ → exec (.clearBinding .supervisor tag (be1 n.val)) s =
      .next (({ s with bindings := s.bindings.set n none } : State).answered
        ⟨.supervisor, 0x24, tag, be1 n.val⟩ .ok [])) ∧
    (∀ (flags : BitVec 64) (da db : Option BindingId),
      let y := be8 flags.toNat ++ orAbsent Fin.val da ++ orAbsent Fin.val db
      s.takes ⟨.supervisor, 0x25, tag, y⟩ → s.mode ≠ .quenched → exec (.setFamily .supervisor tag y) s =
        .next (({ s with family := flags, defaults := { a := da, b := db } } : State).answered
          ⟨.supervisor, 0x25, tag, y⟩ .ok []))

/-! ## Heads (chapter 3) -/

/-- R44, R45: WRITE_HEAD replaces lane, class, stay and anticipation; a lane change clears the latch and cool-until,
and a lane change or stay turned off lifts the head's stay reservation. A lane change of a head that an occupied
slot of its lane names is refused HEAD_IN_USE. -/
def Obligations.HeadSettingsAreWritten : Prop :=
  ∀ (h : HeadId) (lane : Option Lane) (cls : HeadClass) (stay : Bool) (n : Nat) (tag : Byte) (s : State), n ≤ 15 →
    let x := be1 h.val ++ be1 (headLaneNum lane) ++ be1 (bit (cls == .high)) ++ be1 (bit stay) ++ be1 n
    let r := s.head h
    let inUse : Prop := ∃ l k o, r.lane = some l ∧ s.order l k = some o ∧ ∃ j ∈ o.joints, j.head = h
    s.takes ⟨.supervisor, 0x30, tag, x⟩ → s.mode ≠ .unconfigured → s.mode ≠ .quenched →
    (r.lane ≠ lane → inUse →
      exec (.writeHead .supervisor tag x) s = .next (s.answered ⟨.supervisor, 0x30, tag, x⟩ .headInUse [])) ∧
    ((r.lane = lane ∨ ¬ inUse) → ∃ u : State,
      exec (.writeHead .supervisor tag x) s = .next (u.arbitrate.answered ⟨.supervisor, 0x30, tag, x⟩ .ok []) ∧
      (∀ i, u.head i = if i = h then
        { r with lane := lane, cls := cls, stay := stay, anticipation := n,
                 cueLatch := if r.lane = lane then r.cueLatch else false,
                 coolUntil := if r.lane = lane then r.coolUntil else none }
        else s.head i) ∧
      (∀ c, u.stay c = if r.lane ≠ lane ∨ (r.stay = true ∧ stay = false) then (s.stay c).filter (· != h)
        else s.stay c) ∧
      u.arbiter = { s.arbiter with stays := u.arbiter.stays } ∧
      u.oms = s.oms ∧ u.channels = s.channels ∧ u.rings = s.rings ∧ u.recipes = s.recipes ∧ u.units = s.units ∧
      u.faults = s.faults ∧ u.cabinet = s.cabinet ∧ u.ports = s.ports)

/-- R46: every head of the set takes the mask and the others keep theirs; masking lifts the stay reservations of the
set. MASK_HEADS is accepted in QUENCHED, UNMASK_HEADS is refused there. -/
def Obligations.HeadsAreMaskedAndUnmasked : Prop :=
  ∀ (x : List Byte) (tag : Byte) (s : State), x.length = 2 → s.mode ≠ .unconfigured →
    (s.takes ⟨.supervisor, 0x31, tag, x⟩ → ∃ u : State,
      exec (.maskHeads .supervisor tag x) s = .next (u.arbitrate.answered ⟨.supervisor, 0x31, tag, x⟩ .ok []) ∧
      (∀ h, u.head h = { s.head h with masked := (pairAt x 0).testBit h.val || (s.head h).masked }) ∧
      (∀ c, u.stay c = (s.stay c).filter fun h => !(pairAt x 0).testBit h.val) ∧
      u.arbiter = { s.arbiter with stays := u.arbiter.stays } ∧ u.oms = s.oms ∧ u.channels = s.channels ∧
      u.rings = s.rings ∧ u.recipes = s.recipes ∧ u.units = s.units ∧ u.faults = s.faults ∧ u.cabinet = s.cabinet ∧
      u.ports = s.ports) ∧
    (s.takes ⟨.supervisor, 0x32, tag, x⟩ →
      (s.mode = .quenched → exec (.unmaskHeads .supervisor tag x) s =
        .next (s.answered ⟨.supervisor, 0x32, tag, x⟩ .quenched [])) ∧
      (s.mode ≠ .quenched → ∃ u : State,
        exec (.unmaskHeads .supervisor tag x) s = .next (u.arbitrate.answered ⟨.supervisor, 0x32, tag, x⟩ .ok []) ∧
        (∀ h, u.head h = { s.head h with masked := !(pairAt x 0).testBit h.val && (s.head h).masked }) ∧
        u.arbiter = s.arbiter ∧ u.oms = s.oms ∧ u.channels = s.channels ∧ u.rings = s.rings ∧ u.recipes = s.recipes ∧
        u.units = s.units ∧ u.faults = s.faults ∧ u.cabinet = s.cabinet ∧ u.ports = s.ports))

/-- R53: the flags named are cleared and the answer carries the flags as they then stand; COOLANT_LOW cleared while
the switch stands at LOW is set again at once and HEAD_FAULT is raised again. -/
def Obligations.HeadHealthIsCleared : Prop :=
  ∀ (h : HeadId) (n : Nat) (tag : Byte) (s : State), n < 256 → s.mode ≠ .unconfigured →
    let x := be1 h.val ++ be1 n
    let f := (s.head h).health
    let cleared : Health :=
      { openCoil := f.openCoil && !n.testBit 0, sensorLost := f.sensorLost && !n.testBit 1,
        coolantLow := f.coolantLow && !n.testBit 2 }
    let back : Prop := f.coolantLow = true ∧ n.testBit 2 = true ∧ (s.head h).coolant = .low
    s.takes ⟨.supervisor, 0x33, tag, x⟩ →
    (¬ back → exec (.clearHeadHealth .supervisor tag x) s =
      .next ((s.setHead h { s.head h with health := cleared }).arbitrate.answered ⟨.supervisor, 0x33, tag, x⟩ .ok
        (be1 cleared.num))) ∧
    (back → ∃ t : State,
      exec (.clearHeadHealth .supervisor tag x) s =
        .next (t.answered ⟨.supervisor, 0x33, tag, x⟩ .ok (be1 (t.head h).health.num)) ∧
      (t.head h).health = { cleared with coolantLow := true } ∧
      (t.unit .supervisor).headFault = some (s.headContext h))

/-- R54: a CUE takes the front joint of its head out of CUE_WAIT; else it sets the latch; with the latch set it is
refused CUE_HELD. A head of no lane or of the other lane is refused HEAD_NOT_LANE. -/
def Obligations.CueIsTakenOrHeld : Prop :=
  ∀ (p : Port) (l : Lane) (h : HeadId) (tag : Byte) (s : State), portLane p = some l →
    s.takes ⟨p, 0x17, tag, be1 h.val⟩ → s.mode ≠ .unconfigured → s.mode ≠ .quenched →
    let refused (code : AnswerCode) : Prop :=
      exec (.cue p tag (be1 h.val)) s = .next (s.answered ⟨p, 0x17, tag, be1 h.val⟩ code [])
    ((s.head h).lane ≠ some l → refused .headNotLane) ∧
    ((s.head h).lane = some l →
      (∀ k o i j, s.active l = some (k, o) → o.front h = some (i, j) → j.state = .cueWait →
        exec (.cue p tag (be1 h.val)) s =
          .next ((s.modJoint l k i fun x => { x with state := .ready }).arbitrate.answered
            ⟨p, 0x17, tag, be1 h.val⟩ .ok [])) ∧
      ((∀ k o i j, s.active l = some (k, o) → o.front h = some (i, j) → j.state ≠ .cueWait) →
        ((s.head h).cueLatch = true → refused .cueHeld) ∧
        ((s.head h).cueLatch = false → exec (.cue p tag (be1 h.val)) s =
          .next ((s.setHead h { s.head h with cueLatch := true }).answered ⟨p, 0x17, tag, be1 h.val⟩ .ok []))))

/-- R47, R91: a valid reading is stored and restarts the sensor timer at 20 ms, and changes nothing else unless the
head is heating in LIVE; then the peak temperature follows, and a reading above the limit cuts the attempt OVERHEAT,
one that meets the running segment's target with the anticipation ends the segment TEMP. An invalid reading changes
nothing. -/
def Obligations.ReadingsAreStoredAndJudged : Prop :=
  ∀ (h : HeadId) (s : State), exec (.pyrometerReading h none) s = .next s ∧
    ∀ v, v ≤ 1200 →
      let u := s.setHead h { s.head h with temp := some v, sensorTimer := some 20 }
      ((s.mode ≠ .live ∨ s.heatingChannel h = none) → exec (.pyrometerReading h (some v)) s = .next u) ∧
      ∀ c a w, s.mode = .live → (s.head h).connected = some c → (s.chan c).state = .heating →
        (s.chan c).attempt = some a → (s.chan c).heat = some w →
        let warmed : Heating := { w with peakTemp := max w.peakTemp v }
        let t := u.setChan c { s.chan c with heat := some warmed }
        let met : Prop := ∃ g target, (s.recipe a.recipe).segments[w.segment - 1]? = some g ∧
          g.tempTarget = some target ∧ target ≤ v + (s.head h).anticipation
        ((s.recipe a.recipe).overtemp < v →
          exec (.pyrometerReading h (some v)) s = .next (t.cutAttempt c .overheat .idle).arbitrate) ∧
        (v ≤ (s.recipe a.recipe).overtemp → met →
          exec (.pyrometerReading h (some v)) s = .next (t.segmentEnd c .temp).arbitrate) ∧
        (v ≤ (s.recipe a.recipe).overtemp → ¬ met → exec (.pyrometerReading h (some v)) s = .next t.arbitrate)

/-- R48, R49: the expiry of a running sensor timer (which first lets its remaining time pass, log entry 2) stops it
and makes the latest temperature absent; on a head heating in LIVE it cuts the attempt SENSOR_LOST, whose end sets
the flag SENSOR_LOST (AttemptEndWritesOrSuppressesRecord). -/
def Obligations.SensorTimerExpiryIsTaken : Prop :=
  ∀ (h : HeadId) (s : State),
    ((s.head h).sensorTimer = none → exec (.sensorTimerExpiry h) s = .next s) ∧
    ∀ left, (s.head h).sensorTimer = some left →
      let e := s.elapse left
      let u := e.setHead h { e.head h with temp := none, sensorTimer := none }
      ((s.mode ≠ .live ∨ s.heatingChannel h = none) → exec (.sensorTimerExpiry h) s = .next u) ∧
      ∀ c, s.mode = .live → s.heatingChannel h = some c →
        exec (.sensorTimerExpiry h) s = .next (u.cutAttempt c .sensorLost .idle).arbitrate

/-- R50: the switch state is stored; OK changes nothing else; LOW with COOLANT_LOW set changes nothing else; LOW on
a head that is not heating sets COOLANT_LOW; LOW on a heating head is a HEAD_COOLANT fault under the class's
response, with an entry that names the channel and the attempt: contained, the attempt is cut FAULT_ABORT, whose end
sets COOLANT_LOW (AttemptEndWritesOrSuppressesRecord); under QUENCH the flag is set after the quench. -/
def Obligations.CoolantReportsAreTaken : Prop :=
  ∀ (h : HeadId) (s : State),
    exec (.coolantSwitchReport h .ok) s = .next (s.setHead h { s.head h with coolant := .ok }) ∧
    (let u := s.setHead h { s.head h with coolant := .low }
     ((s.head h).health.coolantLow = true → exec (.coolantSwitchReport h .low) s = .next u) ∧
     ((s.head h).health.coolantLow = false →
       (s.heatingChannel h = none →
         exec (.coolantSwitchReport h .low) s = .next (u.setHealth h .coolantLow).arbitrate) ∧
       ∀ c a, s.heatingChannel h = some c → (s.chan c).attempt = some a →
         let e : FaultEntry :=
           { cause := .headCoolant, channel := some c, head := some a.head, lane := some a.lane, slot := some a.slot,
             tag := (s.order a.lane a.slot).map (·.tag), joint := some a.joint, time := s.now }
         (s.faults.headCoolant = .contain → exec (.coolantSwitchReport h .low) s =
           .next ((u.cutAttempt c (.faultAbort .headCoolant) .idle).containError e).arbitrate) ∧
         (s.faults.headCoolant = .quench → exec (.coolantSwitchReport h .low) s =
           .next ((u.quenchCause e).setHealth h .coolantLow).arbitrate)))

/-- R51, R52: a health flag that goes from clear to set raises HEAD_FAULT with its context on EV-S and on the head's
lane port, ends the head's candidacy and lifts its stay reservation, abandons a move under way for the head, and
skips the head's joints in its lane's active order; a flag already set changes nothing. The skip: every joint of the
head without an outcome takes SKIPPED_HEAD and leaves the halted-joint list, a HALTED order whose list has emptied
is RUNNING, and the near-done test and the completion check follow. The model's choice (log entry 14): with a joint
of the head in an attempt the skip waits until the attempt has ended. -/
def Obligations.HealthFlagGoesFromClearToSet : Prop :=
  ∀ (h : HeadId) (f : HealthFlag) (s : State),
    (∀ (l : Lane) (k : SlotId) (o : Order), s.active l = some (k, o) →
      let inAttempt : Prop := ∃ j ∈ o.joints, j.head = h ∧ (j.state = .transfer ∨ j.state = .heating)
      let left := (s.om l).halted.filter fun i => (o.joints[i]?).all fun j => j.head != h
      let emptied : Prop := o.state = .halted ∧ left = []
      ((o.front h = none ∨ inAttempt) → s.skipHead l h = s) ∧
      ((o.front h).isSome → ¬ inAttempt → ∃ u : State,
        s.skipHead l h = (u.nearDoneTest l).completionCheck l ∧
        (∀ m n, u.order m n = if m = l ∧ n = k then
          some { o with
            state := if o.state = .halted ∧ left = [] then .running else o.state
            joints := o.joints.map fun j =>
              if j.head = h ∧ j.outcome = none then { j with state := .done, outcome := some .skippedHead } else j }
          else s.order m n) ∧
        (∀ m, u.om m = { s.om m with
          slots := (u.om m).slots, halted := if m = l then left else (s.om m).halted }) ∧
        (emptied → u.unit (lanePort l) = { s.unit (lanePort l) with halted := false }) ∧
        (¬ emptied → u.units = s.units) ∧ (∀ m, m ≠ l → u.unit (lanePort m) = s.unit (lanePort m)) ∧
        u.heads = s.heads ∧ u.channels = s.channels ∧ u.arbiter = s.arbiter ∧ u.rings = s.rings ∧
        u.recipes = s.recipes ∧ u.faults = s.faults ∧ u.cabinet = s.cabinet ∧ u.ports = s.ports)) ∧
    (∀ l, s.active l = none → s.skipHead l h = s) ∧
    ((s.head h).health.has f = true → s.setHealth h f = s) ∧
    ((s.head h).health.has f = false →
      let t := s.setHealth h f
      (t.head h).health = (s.head h).health.set f ∧ (∀ i, i ≠ h → (t.head i).health = (s.head i).health) ∧
      (t.unit .supervisor).headFault = some (s.headContext h) ∧
      (∀ l, (s.head h).lane = some l → (t.unit (lanePort l)).headFault = some (s.headContext h)) ∧
      (∀ l, (s.head h).lane ≠ some l → t.unit (lanePort l) = s.unit (lanePort l)) ∧
      t.arbiter.candidate ≠ some h ∧ (∀ c, t.stay c ≠ some h) ∧
      t.arbiter.budget = s.arbiter.budget ∧ t.arbiter.committed = s.arbiter.committed ∧
      t.faults = s.faults ∧ t.cabinet = s.cabinet ∧ t.ports = s.ports ∧
      (let moving (c : ChannelId) : Prop :=
          (s.chan c).state = .transfer ∧ (s.chan c).parked = some h ∧ (s.chan c).attempt.isSome
       (∀ c a, moving c → (s.chan c).attempt = some a → (∀ d, moving d → d = c) →
          t.chan c = { s.chan c with attempt := some { a with abandoned := true } }) ∧
       (∀ c, ¬ moving c → t.chan c = s.chan c)) ∧
      ∃ u : State,
        ((s.head h).lane = none → t = u) ∧ (∀ l, (s.head h).lane = some l → t = u.skipHead l h) ∧
        u.oms = s.oms ∧ u.rings = s.rings ∧ u.recipes = s.recipes ∧
        (∀ i, u.head i = if i = h then { s.head h with health := (s.head h).health.set f } else s.head i) ∧
        u.arbiter.candidate = s.arbiter.candidate.filter (· != h) ∧ (∀ c, u.stay c = (s.stay c).filter (· != h)))

/-- R56: the expiry of a present cool-until (whose remaining time passes first, log entry 2) makes it absent and
takes a front joint in COOLING to READY; then the arbiter acts. -/
def Obligations.CoolUntilExpiryReadiesCoolingJoint : Prop :=
  ∀ (h : HeadId) (s : State),
    (s.coolLeft h = none → exec (.coolUntilExpiry h) s = .next s) ∧
    ∀ left, s.coolLeft h = some left →
      let e := s.elapse left
      let u := e.setHead h { e.head h with coolUntil := none }
      (∀ l k o i j, s.frontOf h = some (l, k, o, i, j) → j.state = .cooling →
        exec (.coolUntilExpiry h) s = .next (u.modJoint l k i fun x => { x with state := .ready }).arbitrate) ∧
      ((∀ l k o i j, s.frontOf h = some (l, k, o, i, j) → j.state ≠ .cooling) →
        exec (.coolUntilExpiry h) s = .next u.arbitrate)

/-! ## Grants and channels (chapters 4 and 5) -/

/-- R71, R82: SET_BUDGET replaces the budget by a value of 10 to 180 kW that is not above the ceiling;
RESTORE_CHANNEL takes a FAULTED channel IDLE and leaves any other as it is; then the arbiter acts. -/
def Obligations.BudgetIsSetAndChannelsAreRestored : Prop :=
  (∀ (n : Nat) (tag : Byte) (s : State), n < 256 → s.takes ⟨.supervisor, 0x40, tag, be1 n⟩ →
    let refused (code : AnswerCode) : Prop :=
      exec (.setBudget .supervisor tag (be1 n)) s = .next (s.answered ⟨.supervisor, 0x40, tag, be1 n⟩ code [])
    let outside : Prop := n < 10 ∨ 180 < n ∨ ∃ x, s.cabinet.setup = some x ∧ x.ceiling < n
    (outside → refused .badValue) ∧ (¬ outside → s.mode = .unconfigured → refused .unconfigured) ∧
    (¬ outside → s.mode = .quenched → refused .quenched) ∧
    (¬ outside → s.mode ≠ .unconfigured → s.mode ≠ .quenched → exec (.setBudget .supervisor tag (be1 n)) s =
      .next ((s.setArbiter { s.arbiter with budget := n }).arbitrate.answered
        ⟨.supervisor, 0x40, tag, be1 n⟩ .ok []))) ∧
  ∀ (c : ChannelId) (tag : Byte) (s : State), s.takes ⟨.supervisor, 0x41, tag, be1 c.val⟩ →
    s.mode ≠ .unconfigured → s.mode ≠ .quenched →
    ((s.chan c).state = .faulted → exec (.restoreChannel .supervisor tag (be1 c.val)) s =
      .next ((s.setChan c { s.chan c with state := .idle }).arbitrate.answered
        ⟨.supervisor, 0x41, tag, be1 c.val⟩ .ok [])) ∧
    ((s.chan c).state ≠ .faulted → exec (.restoreChannel .supervisor tag (be1 c.val)) s =
      .next (s.arbitrate.answered ⟨.supervisor, 0x41, tag, be1 c.val⟩ .ok []))

/-- R63, R64: the naming of a candidate: the low turn first, then the HIGH round-robin, whose wrap sets the low-turn
flag, then the LOW round-robin; each finds the first served requesting head of its class after its pointer. With a
candidate named, or with no served head, nothing is named. The model's choice (log entry 4): the naming is taken at
the end of the event that makes its condition hold, so the command CANDIDATE_NAMING repeats it where the condition
holds, with what follows, and leaves the state as it is otherwise. -/
def Obligations.CandidateIsNamedByRoundRobin : Prop :=
  ∀ s : State,
    (∀ cls ptr h, s.nextOf cls ptr = some h → s.requesting h = true ∧ (s.head h).cls = cls ∧
      (∃ c, (s.chan c).state = .idle ∧ (s.stay c = none ∨ s.stay c = some h)) ∧
      ∀ h', s.served h' = true → (s.head h').cls = cls → h - ptr - 1 ≤ h' - ptr - 1) ∧
    (∀ cls ptr, s.nextOf cls ptr = none → ∀ h, s.served h = true → (s.head h).cls ≠ cls) ∧
    (s.arbiter.candidate ≠ none → exec .candidateNaming s = .next s) ∧
    (s.arbiter.candidate = none →
      let a := s.arbiter
      let low := s.nextOf .low a.lowPtr
      let high := s.nextOf .high a.highPtr
      (∀ h, a.lowTurn = true → low = some h → exec .candidateNaming s =
        .next (s.setArbiter { a with candidate := some h, lowPtr := h, lowTurn := false }).arbitrate) ∧
      (∀ h, (a.lowTurn = false ∨ low = none) → high = some h → exec .candidateNaming s =
        .next (s.setArbiter { a with candidate := some h, highPtr := h,
                                     lowTurn := a.lowTurn || decide (h ≤ a.highPtr) }).arbitrate) ∧
      (∀ h, a.lowTurn = false → high = none → low = some h → exec .candidateNaming s =
        .next (s.setArbiter { a with candidate := some h, lowPtr := h }).arbitrate) ∧
      (high = none → low = none → exec .candidateNaming s = .next s))

/-- R66 to R68, R75: where the candidate is requesting, a channel is grantable to it and its peak fits the budget,
the grant reserves the record, commits the peak, raises the attempt number, parks the channel on the head, lifts its
stay reservation and clears the candidate; a head the channel leaves loses its connected channel; the channel goes
to HEATING where it was parked on the head, and to TRANSFER with its move timer otherwise. The model's choice (log
entry 19): the attempt carries the number of grants made before it. -/
def Obligations.GrantBeginsAttempt : Prop :=
  ∀ (h : HeadId) (l : Lane) (k : SlotId) (o : Order) (i : Nat) (j : Joint) (c : ChannelId) (s : State),
    s.arbiter.candidate = some h → s.requesting h = true → s.frontOf h = some (l, k, o, i, j) →
    s.chooseChannel h = some c → s.arbiter.committed + (s.recipe j.recipe).peak ≤ s.arbiter.budget * 10 →
    (s.chan c).state = .idle ∧ (s.stay c = none ∨ s.stay c = some h) ∧
    (∀ d, (s.chan d).state = .idle → (s.stay d = none ∨ s.stay d = some h) →
      ((s.chan d).parked = some h → (s.chan c).parked = some h) ∧
      ((s.chan c).parked ≠ some h → (s.chan d).parked = none → (s.chan c).parked = none ∧ c ≤ d) ∧
      ((s.chan c).parked ≠ some h → (s.chan c).parked ≠ none → c ≤ d)) ∧
    ∃ (u : State) (o' : Order) (j' : Joint), exec .grant s = .next u.arbitrate ∧
      u.arbiter.committed = s.arbiter.committed + (s.recipe j.recipe).peak ∧ u.arbiter.candidate = none ∧
      u.arbiter.budget = s.arbiter.budget ∧ u.arbiter.highPtr = s.arbiter.highPtr ∧
      u.arbiter.lowPtr = s.arbiter.lowPtr ∧ u.arbiter.lowTurn = s.arbiter.lowTurn ∧
      (∀ d, u.stay d = if d = c then none else s.stay d) ∧
      (u.ring l).reserved = (s.ring l).reserved + (8 + 2 * (s.recipe j.recipe).segments.length) ∧
      (u.ring l).records = (s.ring l).records ∧
      u.order l k = some o' ∧ o'.proof = (o.proof || s.mode == .proof) ∧ o'.joints[i]? = some j' ∧
      j'.attempts = j.attempts + 1 ∧ j'.outcome = j.outcome ∧
      (∀ n, n ≠ i → o'.joints[n]? = o.joints[n]?) ∧
      (u.chan c).attempt = some
        (Attempt.mk l k i h j.recipe (j.attempts + 1) (s.recipe j.recipe).peak false (s.mode == .proof) s.grants) ∧
      u.grants = s.grants + 1 ∧ u.draws = s.draws ∧
      (u.chan c).parked = some h ∧ (u.head h).connected = some c ∧
      (∀ x, x ≠ h → ((s.chan c).parked = some x → (s.head x).connected = some c →
          u.head x = { s.head x with connected := none }) ∧
        (((s.chan c).parked ≠ some x ∨ (s.head x).connected ≠ some c) → u.head x = s.head x)) ∧
      u.head h = { s.head h with
        connected := some c
        sensorTimer := if (s.chan c).parked = some h ∧ (s.head h).temp = none ∧ (s.head h).sensorTimer = none then some 20
          else (s.head h).sensorTimer } ∧
      ((s.chan c).parked = some h → (u.chan c).state = .heating ∧ j'.state = .heating ∧
        (u.chan c).moveTimer = none ∧
        ∀ g, (s.recipe j.recipe).segments[0]? = some g → (u.chan c).heat =
          some (Heating.mk 1 g.maxTime s.now 0 0 s.now [])) ∧
      ((s.chan c).parked ≠ some h → (u.chan c).state = .transfer ∧ j'.state = .transfer ∧
        ∀ x, s.cabinet.setup = some x → (u.chan c).moveTimer = some x.transfer) ∧
      (∀ d, d ≠ c → u.chan d = s.chan d) ∧ (∀ m n, (m ≠ l ∨ n ≠ k) → u.order m n = s.order m n) ∧
      u.recipes = s.recipes ∧ u.units = s.units ∧ u.faults = s.faults ∧ u.cabinet = s.cabinet ∧ u.ports = s.ports

/-- The arbiter's part of an event (R62 to R68). A candidate that no longer requests is dropped, its pointers kept, and
one that requests stays named until it is granted; without a candidate a served requesting head is named; a candidate
that fits the budget with a channel grantable to it is granted, and so on until nothing more can be named or granted:
at the end the candidate requests and cannot be granted, or no head is served. What it can change: candidate, pointers
and low turn, committed power and reservations, the channels that were IDLE, the joints that were READY, the sensor
timers and connected channels of heads. Everything else stays. The model's choice (log entry 4): the commands
CANDIDATE_NAMING and GRANT are this same part, begun where their conditions hold. -/
def Obligations.ArbitrationTouchesOnlyIdleChannelsAndReadyJoints : Prop :=
  ∀ s : State,
    let t := s.arbitrate
    let noGrant (x : State) (h : HeadId) : Prop := ∀ l k o i j c, x.frontOf h = some (l, k, o, i, j) →
      x.grantable c h = true → x.arbiter.budget * 10 < x.arbiter.committed + (x.recipe j.recipe).peak
    let dropped := s.setArbiter { s.arbiter with candidate := none }
    (∀ h, t.arbiter.candidate = some h → t.requesting h = true ∧ noGrant t h) ∧
    (t.arbiter.candidate = none → ∀ h, t.served h = false) ∧
    (∀ h, s.arbiter.candidate = some h →
      (s.requesting h = false → t = dropped.arbitrate ∧ s.dropCandidate = dropped) ∧
      (s.requesting h = true → exec .grant s = .next t ∧ (noGrant s h → t = s) ∧ s.dropCandidate = s)) ∧
    (s.arbiter.candidate = none → exec .candidateNaming s = .next t ∧ ((∀ h, s.served h = false) → t = s) ∧
      s.dropCandidate = s) ∧
    (∀ c, (s.chan c).state ≠ .idle → t.chan c = s.chan c) ∧
    (∀ l k, (t.order l k).isSome = (s.order l k).isSome) ∧
    (∀ l k o, s.order l k = some o → ∃ o' : Order, t.order l k = some o' ∧
      o' = { o with joints := o'.joints, proof := o'.proof } ∧ o'.joints.length = o.joints.length ∧
      ∀ (i : Nat) (j : Joint), o.joints[i]? = some j → ∃ j' : Joint, o'.joints[i]? = some j' ∧
        j' = { j with state := j'.state, attempts := j'.attempts } ∧ j.attempts ≤ j'.attempts ∧
        (j.state ≠ .ready → j' = j)) ∧
    (∀ l, t.om l = { s.om l with slots := (t.om l).slots }) ∧
    (∀ h, t.head h = { s.head h with sensorTimer := (t.head h).sensorTimer, connected := (t.head h).connected }) ∧
    (∀ l, (t.ring l).records = (s.ring l).records ∧ (t.ring l).reader = (s.ring l).reader ∧
      (s.ring l).reserved ≤ (t.ring l).reserved) ∧
    t.arbiter.budget = s.arbiter.budget ∧ s.arbiter.committed ≤ t.arbiter.committed ∧
    (s.arbiter.committed < t.arbiter.committed → t.arbiter.committed ≤ t.arbiter.budget * 10) ∧
    t.recipes = s.recipes ∧ t.units = s.units ∧ t.pending = s.pending ∧ t.ports = s.ports ∧ t.bindings = s.bindings ∧
    t.family = s.family ∧ t.defaults = s.defaults ∧ t.faults = s.faults ∧ t.cabinet = s.cabinet ∧ t.draws = s.draws ∧
    s.grants ≤ t.grants

/-- R76, R77: the completion of a running move (whose remaining time passes first, log entry 2). For an attempt that
is not abandoned: an unconfirmed matrix is a MATRIX fault; else in LIVE no load ends it NO_LOAD, whose end sets
OPEN_COIL (AttemptEndWritesOrSuppressesRecord); else the channel enters HEATING. An abandoned attempt ends ABORTED,
and with no attempt the channel goes IDLE, before the matrix is checked. -/
def Obligations.MoveCompletionIsTaken : Prop :=
  ∀ (c : ChannelId) (confirmed load : Bool) (s : State),
    ((s.chan c).moveTimer = none → exec (.moveCompletion c confirmed load) s = .next s) ∧
    ∀ left, (s.chan c).moveTimer = some left → (s.chan c).state = .transfer →
      let e := s.elapse left
      (∀ a, (s.chan c).attempt = some a → a.abandoned = false →
        (confirmed = false → exec (.moveCompletion c confirmed load) s = .next (e.matrixFault c).arbitrate) ∧
        (confirmed = true → s.mode = .live → load = false →
          exec (.moveCompletion c confirmed load) s = .next (e.endAttempt c .noLoad .idle).arbitrate) ∧
        (confirmed = true → (s.mode ≠ .live ∨ load = true) →
          exec (.moveCompletion c confirmed load) s = .next (e.enterHeating c).arbitrate ∧
          ((e.enterHeating c).chan c).state = .heating ∧
          ∀ g, (s.recipe a.recipe).segments[0]? = some g → ((e.enterHeating c).chan c).heat =
            some (Heating.mk 1 g.maxTime e.now 0 0 e.now []))) ∧
      (∀ a, (s.chan c).attempt = some a → a.abandoned = true →
        let u := e.endAttempt c .aborted .idle
        exec (.moveCompletion c confirmed load) s =
          .next (if confirmed then u.arbitrate else (u.matrixFault c).arbitrate)) ∧
      ((s.chan c).attempt = none →
        let u := e.setChan c { e.chan c with state := .idle, attempt := none, moveTimer := none, heat := none }
        exec (.moveCompletion c confirmed load) s =
          .next (if confirmed then u.arbitrate else (u.matrixFault c).arbitrate))

/-- R90, R92 to R94: a segment ends on TIME when its timer expires (whose remaining time passes first, log entry 2)
and on ENERGY when its report is taken. Its entry and its metered energy are added; a required segment with a judged
target that ends on TIME ends the attempt SHORTFALL; the last segment ends it GOOD; otherwise the next segment
starts, with its index, start time and timer. A channel in HEATING drives the running segment's power, its module
counts from the segment start and has the energy target with the attempt and the segment index. A report that names
another attempt or segment is not taken. The model's choices: what names an attempt (log entry 19), and the energy,
a free value of at most power times maximum time and, on ENERGY, at least the target (log entry 5). -/
def Obligations.SegmentsEndAndFollow : Prop :=
  ∀ (c : ChannelId) (a : Attempt) (w : Heating) (g : Segment) (s : State), (s.chan c).attempt = some a →
    (s.chan c).heat = some w → (s.recipe a.recipe).segments[w.segment - 1]? = some g →
    let name : AttemptName := ⟨a.lane, a.slot, a.joint, a.head, a.recipe, a.number, a.serial⟩
    exec (.segmentTimerExpiry c) s = .next ((s.elapse w.segTimer).segmentEnd c .time).arbitrate ∧
    (∀ (n : AttemptName) (k : Nat),
      ((s.chan c).state = .heating → n = name → k = w.segment →
        g.energyTarget.isSome → 0 < g.power →
        exec (.energyReport c n k) s = .next (s.segmentEnd c .energy).arbitrate) ∧
      ((n ≠ name ∨ k ≠ w.segment) → exec (.energyReport c n k) s = .next s)) ∧
    ((s.chan c).state = .heating → s.moduleDrive c =
      { power := g.power, countFrom := some w.segStart
        task := g.energyTarget.map fun target => { attempt := name, segment := w.segment, target := target } }) ∧
    ((s.chan c).state ≠ .heating → s.moduleDrive c = { power := 0, countFrom := none, task := none }) ∧
    ∀ reason : EndReason, ∃ (u : State) (energy : Nat),
      let ended : Heating := { w with
        energy := w.energy + energy
        entries := w.entries ++ [⟨reason, if reason = .time then g.maxTime else (s.now - w.segStart).toNat⟩] }
      u.chan c = { s.chan c with heat := some ended } ∧
      (reason ≠ .energy → energy ≤ g.power * g.maxTime / 1000) ∧
      (∀ target, reason = .energy → g.energyTarget = some target →
        target ≤ energy ∧ energy ≤ max target (g.power * g.maxTime / 1000)) ∧
      (∀ next, (s.recipe a.recipe).segments[w.segment]? = some next →
        u.startSegment c (w.segment + 1) = u.setChan c { s.chan c with
          heat := some { ended with segment := w.segment + 1, segTimer := next.maxTime, segStart := s.now } }) ∧
      (∀ d, d ≠ c → u.chan d = s.chan d) ∧ u.oms = s.oms ∧ u.heads = s.heads ∧ u.rings = s.rings ∧
      u.arbiter = s.arbiter ∧ u.recipes = s.recipes ∧ u.units = s.units ∧ u.cabinet = s.cabinet ∧
      u.faults = s.faults ∧ u.ports = s.ports ∧
      s.segmentEnd c reason =
        (if reason = .time ∧ g.required = true ∧
            (g.energyTarget.isSome ∨ (s.mode ≠ .proof ∧ g.tempTarget.isSome)) then u.endAttempt c .shortfall .idle
         else if (s.recipe a.recipe).segments.length ≤ w.segment then u.endAttempt c .good .idle
         else u.startSegment c (w.segment + 1))

/-- R79, R80, R117, R122: at an attempt end the joint record joins its lane's ring out of its reservation, or with
the discard flag set the reservation is returned; committed power falls by the peak; the channel goes IDLE, parked
where it was, or FAULTED, unparked, with no attempt. Then the result is taken (R101), NO_LOAD sets OPEN_COIL,
SENSOR_LOST and a contained HEAD_COOLANT set their flags (R51), a flagged head's other joints are skipped (R52), and
the stay reservation is made where the conditions of R72 hold. An attempt cut in HEATING adds the CUT entry and the
metered energy first (R96 to R99). The model's choices: the skip follows an abandoned move too (log entry 14),
energy and peak temperature 0 where nothing was heated (log entry 31), and the energy of the cut segment (log entry
5). -/
def Obligations.AttemptEndWritesOrSuppressesRecord : Prop :=
  ∀ (c : ChannelId) (res : AttemptResult) (a : Attempt) (o : Order) (s : State), (s.chan c).attempt = some a →
    s.order a.lane a.slot = some o →
    (∀ dest : ChannelEnd, ∃ v w x : State, v = (s.closeAttempt c res dest).takeResult a res ∧
      (res = .noLoad → w = v.setHealth a.head .openCoil) ∧ (res = .sensorLost → w = v.setHealth a.head .sensorLost) ∧
      (res = .faultAbort .headCoolant → w = v.setHealth a.head .coolantLow) ∧
      (res ≠ .noLoad → res ≠ .sensorLost → res ≠ .faultAbort .headCoolant → w = v) ∧
      (let owed : Prop := ((w.head a.head).health.any = true ∨ a.abandoned = true) ∧
          ∃ n, w.active a.lane = some (a.slot, n)
       (owed → x = w.skipHead a.lane a.head) ∧ (¬ owed → x = w)) ∧
      (let stays : Prop := (x.head a.head).stay = true ∧ (x.chan c).state = .idle ∧ (x.chan c).parked = some a.head ∧
          (x.recipe a.recipe).postDwell = 0 ∧ (x.head a.head).health.any = false ∧
          ∃ k n i j, x.active a.lane = some (k, n) ∧ n.state = .running ∧ n.late = false ∧ n.discard = false ∧
            n.abort = false ∧ n.front a.head = some (i, j) ∧ j.state = .ready
       (stays → s.endAttempt c res dest =
          x.setArbiter { x.arbiter with stays := x.arbiter.stays.set c (some a.head) }) ∧
       (¬ stays → s.endAttempt c res dest = x)) ∧
      ∀ q g, (s.chan c).heat = some q → (s.recipe a.recipe).segments[q.segment - 1]? = some g → ∃ (e : Nat) (y : State),
        s.cutAttempt c res dest = y.endAttempt c res dest ∧ e ≤ g.power * g.maxTime / 1000 ∧
        y = { s.setChan c { s.chan c with heat := some { q with
          energy := q.energy + e, entries := q.entries ++ [⟨.cut, (s.now - q.segStart).toNat⟩] } } with
          draws := s.draws + 1 }) ∧
    (let f := s.closeAttempt c res .faulted
     f.oms = s.oms ∧ f.arbiter = { s.arbiter with
       committed := s.arbiter.committed - a.peak, stays := s.arbiter.stays.set c none } ∧
     f.chan c = { s.chan c with state := .faulted, parked := none, attempt := none, moveTimer := none, heat := none } ∧
     (∀ d, d ≠ c → f.chan d = s.chan d) ∧ f.rings = (s.closeAttempt c res .idle).rings ∧
     (∀ h, f.head h = { s.head h with
       connected := if (s.chan c).parked = some h ∧ (s.head h).connected = some c then none
         else (s.head h).connected })) ∧
    let u := s.closeAttempt c res .idle
    let size := 8 + 2 * (s.recipe a.recipe).segments.length
    u.arbiter.committed = s.arbiter.committed - a.peak ∧ (u.chan c).state = .idle ∧ (u.chan c).attempt = none ∧
    (u.chan c).heat = none ∧ (u.chan c).parked = (s.chan c).parked ∧ (∀ d, d ≠ c → u.chan d = s.chan d) ∧
    (u.ring a.lane).reserved = (s.ring a.lane).reserved - size ∧
    (o.discard = true → (u.ring a.lane).records = (s.ring a.lane).records ∧ u.units = s.units) ∧
    (o.discard = false → ∃ r : JointRecord, (u.ring a.lane).records = (s.ring a.lane).records ++ [.joint r] ∧
      (Record.joint r).size = size ∧ r.lane = a.lane ∧ r.slot = a.slot ∧ r.tag = o.tag ∧ r.joint = a.joint ∧
      r.head = a.head ∧ r.channel = c ∧ r.recipe = a.recipe ∧ r.number = a.number ∧ r.result = res ∧
      r.proof = a.proof ∧ r.time = s.now ∧
      (∀ w, (s.chan c).heat = some w → r.energy = w.energy ∧ r.peakTemp = w.peakTemp ∧
        r.heatTime = (s.now - w.start).toNat ∧ r.entries = w.entries) ∧
      ((s.chan c).heat = none → r.energy = 0 ∧ r.peakTemp = 0 ∧ r.heatTime = 0 ∧ r.entries = [])) ∧
    (∀ m, m ≠ a.lane → u.ring m = s.ring m) ∧ u.oms = s.oms ∧ u.heads = s.heads ∧ u.recipes = s.recipes ∧
    u.faults = s.faults ∧ u.cabinet = s.cabinet ∧ u.ports = s.ports

/-- R101 to R105, R56: what an attempt result makes of its joint. A SHORTFALL of an order that does not wind down
goes by the lane policy: AUTO_RETRY reheats below 1 + the reheat allowance, AUTO_SKIP gives UNDERHEAT, HALT joins
the halted-joint list; where the list was empty the order goes HALTED, ORDER_HALTED is reported to the lane port and
the stay reservations of the lane's heads are lifted (R73, R165). Every other result is the outcome of its name. Cool-until starts when the
head may have another attempt in the order. With the joint DONE, the next joint of the head becomes the front and
goes READY or CUE_WAIT by the table of R9. Then the near-done test and the completion check. The model's choices: the
next joint reaches the front also where a health flag then gives it SKIPPED_HEAD, against the example of chapter 3
(log entry 12), and the near-done test is made after the ABORTED of a move that an abort abandoned too (log entry 13). -/
def Obligations.AttemptResultsAreTakenUnderPolicy : Prop :=
  ∀ (a : Attempt) (res : AttemptResult) (o : Order) (j : Joint) (s : State), s.order a.lane a.slot = some o →
    o.joints[a.joint]? = some j →
    ∃ (u : State) (o' : Order) (j' : Joint),
      s.takeResult a res = (u.nearDoneTest a.lane).completionCheck a.lane ∧
      u.order a.lane a.slot = some o' ∧ o'.joints[a.joint]? = some j' ∧
      let r := s.recipe a.recipe
      let done (out : JointOutcome) : Prop := j' = { j with state := .done, outcome := some out }
      let stays : Prop := (u.om a.lane).halted = (s.om a.lane).halted ∧ o'.state = o.state
      (res = .good → done .good ∧ stays) ∧ (res = .overheat → done .overheat ∧ stays) ∧
      (res = .noLoad → done .noLoad ∧ stays) ∧ (res = .sensorLost → done .sensorLost ∧ stays) ∧
      (∀ cause, res = .faultAbort cause → done .faultAbort ∧ stays) ∧ (res = .aborted → done .aborted ∧ stays) ∧
      (res = .interrupted → done .interrupted ∧ stays) ∧
      (res = .shortfall → (o.late = true ∨ o.discard = true ∨ o.abort = true) → done .underheat ∧ stays) ∧
      (res = .shortfall → o.late = false → o.discard = false → o.abort = false →
        ((s.om a.lane).policy = .autoRetry → j.attempts < 1 + r.allowance →
          j' = { j with state := if r.postDwell = 0 then .ready else .cooling } ∧ stays) ∧
        ((s.om a.lane).policy = .autoRetry → 1 + r.allowance ≤ j.attempts → done .underheat ∧ stays) ∧
        ((s.om a.lane).policy = .autoSkip → done .underheat ∧ stays) ∧
        ((s.om a.lane).policy = .halt → j' = { j with state := .halted } ∧
          (u.om a.lane).halted = (s.om a.lane).halted ++ [a.joint] ∧
          o'.state = (if (s.om a.lane).halted = [] then .halted else o.state))) ∧
      (let halts : Prop := res = .shortfall ∧ o.late = false ∧ o.discard = false ∧ o.abort = false ∧
          (s.om a.lane).policy = .halt ∧ (s.om a.lane).halted = []
       (halts → (∀ p, u.unit p = if p = lanePort a.lane then { s.unit p with halted := true } else s.unit p) ∧
          (∀ c, u.stay c = (s.stay c).filter fun h => (s.head h).lane != some a.lane) ∧
          u.arbiter = { s.arbiter with stays := u.arbiter.stays }) ∧
       (¬ halts → u.units = s.units ∧ u.arbiter = s.arbiter)) ∧
      ((0 < r.postDwell ∧ ∃ x ∈ o'.joints, x.head = a.head ∧ x.outcome = none) →
        (u.head a.head).coolUntil = some (s.now + BitVec.ofNat 32 r.postDwell)) ∧
      (¬ (0 < r.postDwell ∧ ∃ x ∈ o'.joints, x.head = a.head ∧ x.outcome = none) →
        (u.head a.head).coolUntil = (s.head a.head).coolUntil) ∧
      (s.active a.lane = some (a.slot, o) →
        let latch := (s.head a.head).cueLatch
        (∀ (n : Nat) (x : Joint), n ≠ a.joint → o.joints[n]? = some x →
          ((x.state ≠ .pending ∨ ∀ y, o'.front a.head ≠ some (n, y)) → o'.joints[n]? = some x) ∧
          (x.state = .pending → (∃ y, o'.front a.head = some (n, y)) →
            o'.joints[n]? = some { x with state := if x.cue = true ∧ latch = false then .cueWait else .ready } ∧
            (u.head a.head).cueLatch = (latch && !x.cue))) ∧
        ((∀ (n : Nat) (x y : Joint), n ≠ a.joint → o.joints[n]? = some x → o'.front a.head = some (n, y) →
            x.state ≠ .pending) → (u.head a.head).cueLatch = latch)) ∧
      u.head a.head = { s.head a.head with
        cueLatch := (u.head a.head).cueLatch, coolUntil := (u.head a.head).coolUntil } ∧
      (∀ h, h ≠ a.head → u.head h = s.head h) ∧ u.channels = s.channels ∧ u.rings = s.rings ∧ u.recipes = s.recipes ∧
      u.faults = s.faults ∧ u.cabinet = s.cabinet ∧ u.ports = s.ports

/-- R108 to R110: RESUME acts on the oldest halted joint and answers slot, index and entries left. RETRY takes it to
COOLING or READY, and is refused RETRY_LIMIT at attempt number 15; SKIP gives it UNDERHEAT, the next joint of the
head becomes the front by the table of R9 (CUE_WAIT with its cue flag set and the latch clear, else READY, a cue
flag consuming the latch), and the near-done test and the completion check follow. When the list empties the order is
RUNNING and is reported not halted (R165). -/
def Obligations.ResumeDecidesOldestHaltedJoint : Prop :=
  ∀ (p : Port) (l : Lane) (tag : Byte) (s : State), portLane p = some l → s.mode ≠ .unconfigured →
    s.mode ≠ .quenched → s.takes ⟨p, 0x16, tag, be1 0⟩ → s.takes ⟨p, 0x16, tag, be1 1⟩ →
    (s.active l = none →
      exec (.resumeRetry p tag (be1 0)) s = .next (s.answered ⟨p, 0x16, tag, be1 0⟩ .noActive []) ∧
      exec (.resumeSkip p tag (be1 1)) s = .next (s.answered ⟨p, 0x16, tag, be1 1⟩ .noActive [])) ∧
    ∀ k o, s.active l = some (k, o) →
      (o.state ≠ .halted →
        exec (.resumeRetry p tag (be1 0)) s = .next (s.answered ⟨p, 0x16, tag, be1 0⟩ .notHalted []) ∧
        exec (.resumeSkip p tag (be1 1)) s = .next (s.answered ⟨p, 0x16, tag, be1 1⟩ .notHalted [])) ∧
      ∀ i rest j, o.state = .halted → (s.om l).halted = i :: rest → o.joints[i]? = some j →
        let after : OrderState := if rest = [] then .running else .halted
        let answer := be1 k.val ++ be1 i ++ be1 rest.length
        (15 ≤ j.attempts →
          exec (.resumeRetry p tag (be1 0)) s = .next (s.answered ⟨p, 0x16, tag, be1 0⟩ .retryLimit [])) ∧
        (j.attempts < 15 → ∃ u : State,
          exec (.resumeRetry p tag (be1 0)) s = .next (u.arbitrate.answered ⟨p, 0x16, tag, be1 0⟩ .ok answer) ∧
          (u.om l).halted = rest ∧
          u.order l k = some { o with
            state := after
            joints := o.joints.set i
              { j with state := if (s.head j.head).coolUntil.isSome then .cooling else .ready } } ∧
          (u.unit (lanePort l)).halted = (if rest = [] then false else (s.unit (lanePort l)).halted) ∧
          (∀ m n, (m ≠ l ∨ n ≠ k) → u.order m n = s.order m n) ∧ u.heads = s.heads ∧ u.channels = s.channels ∧
          u.rings = s.rings ∧ u.recipes = s.recipes ∧ u.arbiter = s.arbiter ∧ u.faults = s.faults ∧
          u.cabinet = s.cabinet ∧ u.ports = s.ports) ∧
        ∃ (u : State) (o' : Order),
          exec (.resumeSkip p tag (be1 1)) s =
            .next (((u.nearDoneTest l).completionCheck l).arbitrate.answered ⟨p, 0x16, tag, be1 1⟩ .ok answer) ∧
          (u.om l).halted = rest ∧ u.order l k = some o' ∧ o'.state = after ∧
          (∀ q, u.unit q = if q = lanePort l ∧ rest = [] then { s.unit q with halted := false } else s.unit q) ∧
          o'.joints[i]? = some { j with state := .done, outcome := some .underheat } ∧
          (∀ (n : Nat) (x : Joint), n ≠ i → o.joints[n]? = some x → ∃ y : Joint, o'.joints[n]? = some y ∧
            y = { x with state := y.state } ∧ (x.state ≠ .pending → y = x)) ∧
          (∀ n y, o'.front j.head = some (n, y) → y.state ≠ .pending) ∧
          (∀ n x y, n ≠ i → o.joints[n]? = some x → o'.front j.head = some (n, y) →
            (x.state ≠ .pending → u.head j.head = s.head j.head) ∧
            (x.state = .pending →
              y = { x with state := if x.cue = true ∧ (s.head j.head).cueLatch = false then .cueWait else .ready } ∧
              u.head j.head = { s.head j.head with cueLatch := (s.head j.head).cueLatch && !x.cue })) ∧
          (∀ n x, n ≠ i → o.joints[n]? = some x → (∀ y, o'.front j.head ≠ some (n, y)) → o'.joints[n]? = some x) ∧
          (o'.front j.head = none → u.head j.head = s.head j.head) ∧
          (∀ h, h ≠ j.head → u.head h = s.head h) ∧
          (∀ m n, (m ≠ l ∨ n ≠ k) → u.order m n = s.order m n) ∧
          (∀ h, u.head h = { s.head h with cueLatch := (u.head h).cueLatch }) ∧
          u.channels = s.channels ∧ u.rings = s.rings ∧ u.recipes = s.recipes ∧ u.arbiter = s.arbiter ∧
          u.faults = s.faults ∧ u.cabinet = s.cabinet ∧ u.ports = s.ports

/-! ## Rings (chapter 6) -/

/-- R125, R126, R128: ACK_RESULTS of n stored records by the reader removes the n oldest, reports an emptied ring,
offers the space to the Order Manager and then to the arbiter, and answers the counts. More than are stored is
refused RANGE; another port is refused NOT_READER. -/
def Obligations.AcknowledgedRecordsLeaveTheRing : Prop :=
  ∀ (p : Port) (l : Lane) (n : Nat) (tag : Byte) (s : State), 1 ≤ n → n ≤ 585 →
    let x := be1 (laneNum l) ++ be2 n
    let refused (code : AnswerCode) : Prop := exec (.ackResults p tag x) s = .next (s.answered ⟨p, 0x51, tag, x⟩ code [])
    s.takes ⟨p, 0x51, tag, x⟩ →
    (p ≠ readerPort l (s.ring l).reader → refused .notReader) ∧
    (p = readerPort l (s.ring l).reader →
      ((s.ring l).records.length < n → refused .range) ∧
      (n ≤ (s.ring l).records.length → ∃ u : State,
        let t := (u.tryActivation l).arbitrate
        exec (.ackResults p tag x) s = .next (t.answered ⟨p, 0x51, tag, x⟩ .ok
          (be2 (t.ring l).records.length ++ be2 (wordsOf (t.ring l).records) ++ be2 (t.ring l).reserved)) ∧
        u.ring l = { s.ring l with records := (s.ring l).records.drop n } ∧
        (u.unit p).results.get l = (if (s.ring l).records.length = n then false else (s.unit p).results.get l) ∧
        (∀ q, q ≠ p → u.unit q = s.unit q) ∧ (∀ m, m ≠ l → u.ring m = s.ring m) ∧
        u.oms = s.oms ∧ u.heads = s.heads ∧ u.channels = s.channels ∧ u.arbiter = s.arbiter ∧
        u.recipes = s.recipes ∧ u.faults = s.faults ∧ u.cabinet = s.cabinet ∧ u.ports = s.ports))

/-- R127, R128: SET_READER replaces the ring's reader, keeping records and reservations; RESULTS_PENDING leaves the
old reader and, with records stored, stands on the new one. Another ring or reader code is refused BAD_VALUE, and in
UNCONFIGURED the request is refused. -/
def Obligations.ReaderIsReplaced : Prop :=
  (∀ (ring reader tag : Byte) (s : State), s.takes ⟨.supervisor, 0x52, tag, [ring, reader]⟩ →
    let refused (code : AnswerCode) : Prop := exec (.setReader .supervisor tag [ring, reader]) s =
      .next (s.answered ⟨.supervisor, 0x52, tag, [ring, reader]⟩ code [])
    (1 < ring.toNat ∨ 1 < reader.toNat → refused .badValue) ∧
    (ring.toNat ≤ 1 → reader.toNat ≤ 1 → s.mode = .unconfigured → refused .unconfigured)) ∧
  ∀ (l : Lane) (reader : Reader) (tag : Byte) (s : State), s.mode ≠ .unconfigured →
    let x := be1 (laneNum l) ++ be1 reader.num
    s.takes ⟨.supervisor, 0x52, tag, x⟩ → ∃ u : State,
      exec (.setReader .supervisor tag x) s = .next (u.answered ⟨.supervisor, 0x52, tag, x⟩ .ok []) ∧
      u.ring l = { s.ring l with reader := reader } ∧ (∀ m, m ≠ l → u.ring m = s.ring m) ∧
      (∀ p m, (u.unit p).results.get m =
        if m = l then
          if p = readerPort l reader ∧ (s.ring l).records ≠ [] then true
          else if p = readerPort l (s.ring l).reader then false
          else (s.unit p).results.get m
        else (s.unit p).results.get m) ∧
      (∀ p, u.unit p = { s.unit p with results := (u.unit p).results }) ∧
      u.oms = s.oms ∧ u.heads = s.heads ∧ u.channels = s.channels ∧ u.arbiter = s.arbiter ∧ u.recipes = s.recipes ∧
      u.faults = s.faults ∧ u.cabinet = s.cabinet ∧ u.ports = s.ports

/-! ## Faults (chapter 7) -/

/-- R134, R146: SET_RESPONSE replaces the response of the class named, INVERTER, MATRIX or HEAD_COOLANT, and refuses
every other class and response code; CLEAR_ERRORS makes the three logs invalid and the severity CLEAR, and is
refused in UNCONFIGURED and QUENCHED. Nothing else changes. -/
def Obligations.ResponsesAreSetAndErrorsCleared : Prop :=
  (∀ (r : Response) (tag : Byte) (s : State), s.mode ≠ .unconfigured →
    (s.takes ⟨.supervisor, 0x60, tag, [3, BitVec.ofNat 8 r.num]⟩ →
      exec (.setResponse .supervisor tag [3, BitVec.ofNat 8 r.num]) s =
        .next ((s.setFaults { s.faults with inverter := r }).answered
          ⟨.supervisor, 0x60, tag, [3, BitVec.ofNat 8 r.num]⟩ .ok [])) ∧
    (s.takes ⟨.supervisor, 0x60, tag, [4, BitVec.ofNat 8 r.num]⟩ →
      exec (.setResponse .supervisor tag [4, BitVec.ofNat 8 r.num]) s =
        .next ((s.setFaults { s.faults with matrix := r }).answered
          ⟨.supervisor, 0x60, tag, [4, BitVec.ofNat 8 r.num]⟩ .ok [])) ∧
    (s.takes ⟨.supervisor, 0x60, tag, [5, BitVec.ofNat 8 r.num]⟩ →
      exec (.setResponse .supervisor tag [5, BitVec.ofNat 8 r.num]) s =
        .next ((s.setFaults { s.faults with headCoolant := r }).answered
          ⟨.supervisor, 0x60, tag, [5, BitVec.ofNat 8 r.num]⟩ .ok []))) ∧
  (∀ (cls resp tag : Byte) (s : State), s.takes ⟨.supervisor, 0x60, tag, [cls, resp]⟩ →
    let refused (code : AnswerCode) : Prop :=
      exec (.setResponse .supervisor tag [cls, resp]) s = .next (s.answered ⟨.supervisor, 0x60, tag, [cls, resp]⟩ code [])
    (cls.toNat < 3 ∨ 5 < cls.toNat ∨ 1 < resp.toNat → refused .badValue) ∧
    (3 ≤ cls.toNat → cls.toNat ≤ 5 → resp.toNat ≤ 1 → s.mode = .unconfigured → refused .unconfigured)) ∧
  ∀ (tag : Byte) (s : State), s.takes ⟨.supervisor, 0x62, tag, []⟩ →
    let refused (code : AnswerCode) : Prop :=
      exec (.clearErrors .supervisor tag []) s = .next (s.answered ⟨.supervisor, 0x62, tag, []⟩ code [])
    (s.mode = .unconfigured → refused .unconfigured) ∧ (s.mode = .quenched → refused .quenched) ∧
    (s.mode ≠ .unconfigured → s.mode ≠ .quenched → exec (.clearErrors .supervisor tag []) s =
      .next ((s.setFaults { s.faults with
          severity := .clear, cabinetLog := none, laneLogs := { a := none, b := none } }).answered
        ⟨.supervisor, 0x62, tag, []⟩ .ok []))

/-- R133: a repeated input state changes nothing; a return from alarm is stored and nothing more; a change into
alarm is stored in UNCONFIGURED, quenches with an entry of the input's class in SETTLING, LIVE and PROOF, and in
QUENCHED fills the empty logs. -/
def Obligations.CabinetInputsAreTakenByMode : Prop :=
  ∀ (i : CabinetInput) (s : State),
    let e : FaultEntry :=
      { cause := match i with
          | .coolantFlow => .cabinetCoolant
          | .busCurrent => .busOvercurrent
          | .groundMonitor => .groundFault,
        channel := none, head := none, lane := none, slot := none, tag := none, joint := none, time := s.now }
    let stored (alarm : Bool) : State := s.setFaults (s.faults.setAlarm i alarm)
    (∀ alarm, s.faults.alarm i = alarm → exec (.cabinetInputChange i alarm) s = .next s) ∧
    (s.faults.alarm i = true → exec (.cabinetInputChange i false) s = .next (stored false)) ∧
    (s.faults.alarm i = false →
      (s.mode = .unconfigured → exec (.cabinetInputChange i true) s = .next (stored true)) ∧
      (s.mode = .quenched → exec (.cabinetInputChange i true) s = .next ((stored true).fillLogs e true)) ∧
      (s.mode ≠ .unconfigured → s.mode ≠ .quenched →
        exec (.cabinetInputChange i true) s = .next ((stored true).quench e))) ∧
    ∀ alarm, (s.faults.setAlarm i alarm).alarm i = alarm

/-- R22, R81, R99, R139, R143, R144: a quench stops every installed channel unparked with its mark telling whether
it was FAULTED, ends every attempt INTERRUPTED with its joint record unless the discard flag is set, empties the
arbiter, completes each lane's active order, fills the invalid logs (a lane log with the entry where it names the
lane, else with the quench form of the lane's active order), and sets mode QUENCHED, severity QUENCH and QUENCH on
the three ports with their contexts; budget, pointers, tables, posted orders and readers are kept. An order that
completes so stops its deadline, empties the halted-joint list, lowers its references and posts ORDER_DONE and
SLOT_FREE, and a head whose channel is unparked has no connected channel. The model's choices: energy and peak
temperature 0 for an attempt that never heated (log entry 31), the type code in the record (log entry 30), and the
free energy of a cut segment, of at most power times maximum time (log entry 5). -/
def Obligations.QuenchStopsTheCabinet : Prop :=
  ∀ (e : FaultEntry) (s : State),
    let t := s.quench e
    t.mode = .quenched ∧ t.faults.severity = .quench ∧ t.cabinet.settlingTimer = none ∧ t.cabinet.dummyLoad = false ∧
    t.cabinet.setup = s.cabinet.setup ∧ t.cabinet.timeBase = s.cabinet.timeBase ∧
    (∀ c, (s.chan c).state ≠ .offline → (t.chan c).state = .stopped ∧ (t.chan c).parked = none ∧
      (t.chan c).moveTimer = none ∧ (t.chan c).heat = none ∧
      ((t.chan c).faultHeld = true ↔ (s.chan c).state = .faulted)) ∧
    (∀ c, (t.chan c).attempt = none) ∧
    (∀ c, (s.chan c).state = .offline → (s.chan c).attempt = none → t.chan c = s.chan c) ∧
    t.arbiter.committed = 0 ∧ t.arbiter.candidate = none ∧ (∀ c, t.stay c = none) ∧
    t.arbiter.budget = s.arbiter.budget ∧ t.arbiter.highPtr = s.arbiter.highPtr ∧
    t.arbiter.lowPtr = s.arbiter.lowPtr ∧ t.arbiter.lowTurn = s.arbiter.lowTurn ∧
    (∀ l, (t.om l).released = 0 ∧ (t.om l).postPtr = (s.om l).postPtr ∧ (t.om l).policy = (s.om l).policy ∧
      (t.om l).threshold = (s.om l).threshold ∧ (t.ring l).reader = (s.ring l).reader ∧
      (s.ring l).records <+: (t.ring l).records) ∧
    (∀ l k o, s.active l = some (k, o) → t.order l k = none ∧ (t.om l).deadline = none ∧ (t.om l).halted = [] ∧
      (t.unit (lanePort l)).slotFree = some { lane := some l, slot := some k, tag := none, head := none } ∧
      (t.unit (lanePort l)).pollMark = false ∧ (t.unit (lanePort l)).halted = false ∧
      (t.unit (lanePort l)).orderDone = some { lane := some l, slot := some k, tag := some o.tag, head := none } ∧
      (t.unit (lanePort l)).quench = some { lane := some l, slot := some k, tag := some o.tag, head := none } ∧
      ∃ r : CompletionRecord, Record.completion r ∈ (t.ring l).records ∧ r.lane = l ∧ r.slot = k ∧ r.tag = o.tag ∧
        r.code = o.code ∧ r.proof = o.proof ∧ r.time = s.now ∧ r.kind = .interrupted ∧ r.joints = o.joints.map fun j =>
          (j.outcome.getD (if 0 < j.attempts then .interrupted else .notRun), j.attempts)) ∧
    (∀ c a o, (s.chan c).attempt = some a → s.order a.lane a.slot = some o → o.discard = false →
      ∃ r : JointRecord, Record.joint r ∈ (t.ring a.lane).records ∧ r.lane = a.lane ∧ r.slot = a.slot ∧ r.tag = o.tag ∧
        r.joint = a.joint ∧ r.head = a.head ∧ r.channel = c ∧ r.recipe = a.recipe ∧ r.number = a.number ∧
        r.result = .interrupted ∧ r.proof = a.proof ∧ r.time = s.now ∧
        r.places = (s.recipe a.recipe).segments.length ∧
        (∀ w g, (s.chan c).state = .heating → (s.chan c).heat = some w →
          (s.recipe a.recipe).segments[w.segment - 1]? = some g →
          w.energy ≤ r.energy ∧ r.energy ≤ w.energy + g.power * g.maxTime / 1000 ∧ r.peakTemp = w.peakTemp ∧
          r.heatTime = (s.now - w.start).toNat ∧ r.entries = w.entries ++ [⟨.cut, (s.now - w.segStart).toNat⟩]) ∧
        ((s.chan c).heat = none → r.energy = 0 ∧ r.peakTemp = 0 ∧ r.heatTime = 0 ∧ r.entries = [])) ∧
    t.faults.cabinetLog = some (s.faults.cabinetLog.getD e) ∧
    (∀ l, e.lane = some l → t.faults.laneLogs.get l = some ((s.faults.laneLogs.get l).getD e)) ∧
    (∀ l k o, e.lane ≠ some l → s.active l = some (k, o) →
      t.faults.laneLogs.get l = some ((s.faults.laneLogs.get l).getD
        { cause := e.cause, channel := none, head := none, lane := some l, slot := some k, tag := some o.tag,
          joint := none, time := e.time })) ∧
    (∀ l, e.lane ≠ some l → s.active l = none → t.faults.laneLogs.get l = s.faults.laneLogs.get l) ∧
    (∀ l, s.active l = none → (∀ k, t.order l k = s.order l k) ∧ (t.om l).deadline = (s.om l).deadline ∧
      (t.om l).halted = (s.om l).halted ∧
      (t.unit (lanePort l)).quench = some { lane := some l, slot := none, tag := none, head := none }) ∧
    (∀ l k o, s.order l k = some o → o.state = .posted → t.order l k = some o) ∧
    (t.unit .supervisor).quench = some { lane := e.lane, slot := e.slot, tag := e.tag, head := e.head } ∧
    (∀ h, t.head h = { s.head h with connected := (t.head h).connected }) ∧
    (let leaves (h : HeadId) : Prop :=
       ∃ c, (s.chan c).state ≠ .offline ∧ (s.chan c).parked = some h ∧ (s.head h).connected = some c
     ∀ h, (leaves h → (t.head h).connected = none) ∧ (¬ leaves h → (t.head h).connected = (s.head h).connected)) ∧
    (let held (l : Lane) (r : RecipeId) : Nat := if (s.active l).any (fun x => x.2.recipes.contains r) then 1 else 0
     ∀ r, t.recipes.get r = { s.recipes.get r with refs := (s.recipes.get r).refs - held .a r - held .b r }) ∧ t.bindings = s.bindings ∧ t.family = s.family ∧
    t.defaults = s.defaults ∧ t.ports = s.ports ∧
    t.faults.inverter = s.faults.inverter ∧ t.faults.matrix = s.faults.matrix ∧
    t.faults.headCoolant = s.faults.headCoolant

/-- R132, R135, R136, R141: INVERTER and MATRIX reports are not taken in UNCONFIGURED; otherwise they are handled
under the response of their class, with an entry naming the channel and the attempt it reaches. Under CONTAIN the
channel acts by its state (R80), where an attempt in TRANSFER ends FAULT_ABORT and one in HEATING is cut, empty logs
fill, severity is at least CONTAINED and CONTAIN_ERROR is posted. The model's choice (log entry 18): a MATRIX report
reaches the attempt of the channel it names, as an INVERTER report does. -/
def Obligations.ChannelFaultsAreHandledByResponse : Prop :=
  ∀ (c : ChannelId) (s : State),
    let entry (cls : CauseClass) : FaultEntry :=
      { cause := cls, channel := some c, head := (s.chan c).attempt.map (·.head),
        lane := (s.chan c).attempt.map (·.lane), slot := (s.chan c).attempt.map (·.slot),
        tag := (s.chan c).attempt.bind fun a => (s.order a.lane a.slot).map (·.tag),
        joint := (s.chan c).attempt.map (·.joint), time := s.now }
    (s.mode = .unconfigured → exec (.inverterFaultReport c) s = .next s.arbitrate ∧
      exec (.matrixFaultReport c) s = .next s.arbitrate ∧
      (s.arbiter.candidate = none →
        exec (.inverterFaultReport c) s = .next s ∧ exec (.matrixFaultReport c) s = .next s)) ∧
    (s.mode ≠ .unconfigured →
      (s.faults.inverter = .quench →
        exec (.inverterFaultReport c) s = .next (s.quenchCause (entry .inverter)).arbitrate) ∧
      (s.faults.matrix = .quench →
        exec (.matrixFaultReport c) s = .next (s.quenchCause (entry .matrix)).arbitrate) ∧
      (s.faults.inverter = .contain → exec (.inverterFaultReport c) s =
        .next ((s.containChannel .inverter c).containError (entry .inverter)).arbitrate) ∧
      (s.faults.matrix = .contain → exec (.matrixFaultReport c) s =
        .next ((s.containChannel .matrix c).containError (entry .matrix)).arbitrate)) ∧
    (∀ cause, cause ≠ .headCoolant →
      let t := s.containChannel cause c
      ((s.chan c).state = .offline ∨ (s.chan c).state = .faulted → t = s) ∧
      ((s.chan c).state = .stopped → t = s.setChan c { s.chan c with faultHeld := true }) ∧
      ((s.chan c).state = .transfer → (s.chan c).attempt.isSome → t = s.endAttempt c (.faultAbort cause) .faulted) ∧
      ((s.chan c).state = .heating → t = s.cutAttempt c (.faultAbort cause) .faulted) ∧
      ((s.chan c).state = .idle ∨ (s.chan c).state = .transfer ∨ (s.chan c).state = .heating ∧
          (s.chan c).attempt.isSome →
        (t.chan c).state = .faulted ∧ (t.chan c).parked = none ∧ (t.chan c).attempt = none)) ∧
    ∀ e : FaultEntry,
      let t := s.containError e
      t.faults.severity ≠ .clear ∧ (s.faults.severity ≠ .clear → t.faults.severity = s.faults.severity) ∧
      t.faults.cabinetLog = some (s.faults.cabinetLog.getD e) ∧
      (∀ l, e.lane = some l → t.faults.laneLogs.get l = some ((s.faults.laneLogs.get l).getD e)) ∧
      (∀ l, e.lane ≠ some l → t.faults.laneLogs.get l = s.faults.laneLogs.get l) ∧
      (t.unit .supervisor).containError = some { lane := e.lane, slot := e.slot, tag := e.tag, head := e.head }

/-- R81, R147, R148: CABINET_RESET answers OK and enters SETTLING with the timer at the full interval, the arbiter
empty and no channel in TRANSFER or HEATING, and a head whose channel is unparked has no connected channel; taken in
QUENCHED a STOPPED channel comes back FAULTED by its mark or
IDLE, severity QUENCH becomes CONTAINED and QUENCH is cleared on every port; taken elsewhere severity stays, the
attempts end INTERRUPTED with their joint records, the active orders complete INTERRUPTED with their records and
lower their references, and the released counts become 0. Standing alarms are taken after that. The model's choice (log entry 30): a completion
record holds the type code. -/
def Obligations.CabinetResetReturnsToSettling : Prop :=
  ∀ (tag : Byte) (s : State), s.takes ⟨.supervisor, 0x63, tag, []⟩ → s.mode ≠ .unconfigured →
    ∃ u : State,
      exec (.cabinetReset .supervisor tag []) s =
        .next (u.standingAlarms.answered ⟨.supervisor, 0x63, tag, []⟩ .ok []) ∧
      (u.faults.coolantFlow = false → u.faults.busCurrent = false → u.faults.groundMonitor = false →
        u.standingAlarms = u) ∧
      u.cabinet = { s.cabinet with
        mode := .settling, settlingTimer := s.cabinet.setup.map (·.settling), dummyLoad := false } ∧
      u.arbiter = { s.arbiter with committed := 0, candidate := none, stays := Vector.replicate 6 none } ∧
      (∀ c, (u.chan c).attempt = none) ∧
      (∀ c, (s.chan c).state = .stopped → (u.chan c).parked = none ∧ (u.chan c).faultHeld = false ∧
        (u.chan c).state = if (s.chan c).faultHeld then .faulted else .idle) ∧
      (∀ c, ((s.chan c).state = .idle ∨ (s.chan c).state = .transfer ∨ (s.chan c).state = .heating) →
        (u.chan c).state = .idle ∧ (u.chan c).parked = none ∧ (u.chan c).moveTimer = none) ∧
      (∀ c, ((s.chan c).state = .offline ∨ (s.chan c).state = .faulted) → (s.chan c).attempt = none →
        u.chan c = s.chan c) ∧
      (s.mode = .quenched →
        u.faults = { s.faults with severity := if s.faults.severity = .quench then .contained else s.faults.severity } ∧
        (∀ p, (u.unit p).quench = none) ∧
        ((∀ c, (s.chan c).attempt = none) → (∀ p, u.unit p = { s.unit p with quench := none }) ∧ u.oms = s.oms ∧
          u.rings = s.rings ∧ u.recipes = s.recipes)) ∧
      (s.mode ≠ .quenched → u.faults = s.faults ∧ (∀ l, (u.om l).released = 0) ∧
        (let held (l : Lane) (r : RecipeId) : Nat := if (s.active l).any (fun x => x.2.recipes.contains r) then 1 else 0
         ∀ r, u.recipes.get r = { s.recipes.get r with refs := (s.recipes.get r).refs - held .a r - held .b r }) ∧
        (∀ c a o, (s.chan c).attempt = some a → s.order a.lane a.slot = some o → o.discard = false →
          ∃ r : JointRecord, Record.joint r ∈ (u.ring a.lane).records ∧ r.lane = a.lane ∧ r.slot = a.slot ∧
            r.tag = o.tag ∧ r.joint = a.joint ∧ r.head = a.head ∧ r.channel = c ∧ r.recipe = a.recipe ∧
            r.number = a.number ∧ r.result = .interrupted ∧ r.proof = a.proof ∧ r.time = s.now) ∧
        (∀ l, (s.ring l).records <+: (u.ring l).records ∧ (u.ring l).reader = (s.ring l).reader) ∧
        (∀ l k o, s.order l k = some o → o.state = .posted → u.order l k = some o) ∧
        ∀ l k o, s.active l = some (k, o) → u.order l k = none ∧ (u.om l).deadline = none ∧ (u.om l).halted = [] ∧
          (u.unit (lanePort l)).orderDone =
            some { lane := some l, slot := some k, tag := some o.tag, head := none } ∧
          (u.unit (lanePort l)).slotFree = some { lane := some l, slot := some k, tag := none, head := none } ∧
          ∃ r : CompletionRecord, Record.completion r ∈ (u.ring l).records ∧ r.lane = l ∧ r.slot = k ∧ r.tag = o.tag ∧
            r.code = o.code ∧ r.proof = o.proof ∧ r.time = s.now ∧ r.kind = .interrupted ∧
            r.joints = o.joints.map fun j =>
              (j.outcome.getD (if 0 < j.attempts then .interrupted else .notRun), j.attempts)) ∧
      (∀ h, u.head h = { s.head h with connected := (u.head h).connected }) ∧
      (let leaves (h : HeadId) : Prop := ∃ c, (s.chan c).state ≠ .offline ∧ (s.chan c).state ≠ .faulted ∧
         (s.chan c).parked = some h ∧ (s.head h).connected = some c
       ∀ h, (leaves h → (u.head h).connected = none) ∧ (¬ leaves h → (u.head h).connected = (s.head h).connected)) ∧
      u.ports = s.ports

/-! ## Cabinet modes (chapter 8) -/

/-- R83, R152, R153: in UNCONFIGURED, CABINET_SETUP stores the setup values, starts the time base at 0 and the
settling timer, makes the channels below the installed count IDLE and unparked, sets the budget to the ceiling and
enters SETTLING; then standing alarms are taken. In every other mode it is refused ONCE, and in every mode a value
out of range is refused BAD_VALUE. -/
def Obligations.CabinetIsSetUpOnce : Prop :=
  (∀ (y : List Byte) (tag : Byte) (s : State), y.length = 5 → s.takes ⟨.supervisor, 0x70, tag, y⟩ →
    ¬ (1 ≤ byteAt y 0 ∧ byteAt y 0 ≤ 6 ∧ 10 ≤ byteAt y 1 ∧ byteAt y 1 ≤ 180 ∧ 20 ≤ byteAt y 2 ∧ byteAt y 2 ≤ 80 ∧
      200 ≤ pairAt y 3 ∧ pairAt y 3 ≤ 2000) →
    exec (.cabinetSetup .supervisor tag y) s = .next (s.answered ⟨.supervisor, 0x70, tag, y⟩ .badValue [])) ∧
  ∀ (x : Setup) (tag : Byte) (s : State), 1 ≤ x.channels → x.channels ≤ 6 → 10 ≤ x.ceiling → x.ceiling ≤ 180 →
    20 ≤ x.transfer → x.transfer ≤ 80 → 200 ≤ x.settling → x.settling ≤ 2000 →
    let y := be1 x.channels ++ be1 x.ceiling ++ be1 x.transfer ++ be2 x.settling
    s.takes ⟨.supervisor, 0x70, tag, y⟩ →
    (s.mode ≠ .unconfigured →
      exec (.cabinetSetup .supervisor tag y) s = .next (s.answered ⟨.supervisor, 0x70, tag, y⟩ .once [])) ∧
    (s.mode = .unconfigured → ∃ u : State,
      exec (.cabinetSetup .supervisor tag y) s =
        .next (u.standingAlarms.answered ⟨.supervisor, 0x70, tag, y⟩ .ok []) ∧
      u.cabinet = { s.cabinet with
        mode := .settling, setup := some x, timeBase := some 0, settlingTimer := some x.settling } ∧
      (∀ c, c.val < x.channels → (u.chan c).state = .idle ∧ (u.chan c).parked = none ∧ (u.chan c).attempt = none) ∧
      (∀ c, x.channels ≤ c.val → u.chan c = s.chan c) ∧
      u.arbiter = { s.arbiter with budget := x.ceiling, committed := 0 } ∧
      u.oms = s.oms ∧ u.heads = s.heads ∧ u.rings = s.rings ∧ u.recipes = s.recipes ∧ u.units = s.units ∧
      u.faults = s.faults ∧ u.ports = s.ports)

/-- R83, R156, R157: ENTER_PROOF in LIVE and LEAVE_PROOF in PROOF, with no channel in TRANSFER or HEATING, unpark
every IDLE channel, so that the head it left has no connected channel, and lift every stay reservation; the first selects the dummy load, and activation and the arbiter
follow; the second enters SETTLING with the timer started and drops the candidate. In another mode they are refused
WRONG_MODE, with a busy channel BUSY. -/
def Obligations.ProofIsEnteredAndLeftWithAnIdlePool : Prop :=
  ∀ (tag : Byte) (s : State), s.mode ≠ .unconfigured → s.mode ≠ .quenched →
    let busy : Prop := ∃ c, (s.chan c).state = .transfer ∨ (s.chan c).state = .heating
    let unparked (u : State) : Prop :=
      (∀ c, u.chan c = if (s.chan c).state = .idle then { s.chan c with parked := none } else s.chan c) ∧
      (∀ c, u.stay c = none) ∧ (∀ h, u.head h = { s.head h with connected := (u.head h).connected }) ∧
      (let leaves (h : HeadId) : Prop :=
         ∃ c, (s.chan c).state = .idle ∧ (s.chan c).parked = some h ∧ (s.head h).connected = some c
       ∀ h, (leaves h → (u.head h).connected = none) ∧ (¬ leaves h → (u.head h).connected = (s.head h).connected)) ∧
      u.oms = s.oms ∧ u.rings = s.rings ∧ u.recipes = s.recipes ∧ u.units = s.units ∧ u.faults = s.faults ∧
      u.ports = s.ports ∧ u.arbiter.budget = s.arbiter.budget ∧ u.arbiter.highPtr = s.arbiter.highPtr ∧
      u.arbiter.lowPtr = s.arbiter.lowPtr ∧ u.arbiter.lowTurn = s.arbiter.lowTurn
    (s.takes ⟨.supervisor, 0x71, tag, []⟩ →
      let refused (code : AnswerCode) : Prop :=
        exec (.enterProof .supervisor tag []) s = .next (s.answered ⟨.supervisor, 0x71, tag, []⟩ code [])
      (s.mode ≠ .live → refused .wrongMode) ∧ (s.mode = .live → busy → refused .busy) ∧
      (s.mode = .live → ¬ busy → ∃ u : State,
        exec (.enterProof .supervisor tag []) s =
          .next (((u.tryActivation .a).tryActivation .b).arbitrate.answered ⟨.supervisor, 0x71, tag, []⟩ .ok []) ∧
        unparked u ∧ u.cabinet = { s.cabinet with mode := .proof, dummyLoad := true } ∧
        u.arbiter.candidate = s.arbiter.candidate)) ∧
    (s.takes ⟨.supervisor, 0x72, tag, []⟩ →
      let refused (code : AnswerCode) : Prop :=
        exec (.leaveProof .supervisor tag []) s = .next (s.answered ⟨.supervisor, 0x72, tag, []⟩ code [])
      (s.mode ≠ .proof → refused .wrongMode) ∧ (s.mode = .proof → busy → refused .busy) ∧
      (s.mode = .proof → ¬ busy → ∃ u : State,
        exec (.leaveProof .supervisor tag []) s = .next (u.answered ⟨.supervisor, 0x72, tag, []⟩ .ok []) ∧
        unparked u ∧ u.arbiter.candidate = none ∧
        u.cabinet = { s.cabinet with
          mode := .settling, settlingTimer := s.cabinet.setup.map (·.settling), dummyLoad := false }))

/-- R154: the expiry of the settling timer (whose remaining time passes first, log entry 2) enters LIVE and posts
CABINET_LIVE with an empty context to the three ports; then each lane tries activation and the arbiter acts. -/
def Obligations.SettlingExpiryEntersLive : Prop :=
  ∀ s : State,
    (s.cabinet.settlingTimer = none → exec .settlingExpiry s = .next s) ∧
    ∀ left, s.cabinet.settlingTimer = some left →
      let e := s.elapse left
      ∃ u : State, exec .settlingExpiry s = .next ((u.tryActivation .a).tryActivation .b).arbitrate ∧
        u.cabinet = { e.cabinet with mode := .live, settlingTimer := none } ∧
        (∀ p, u.unit p = { s.unit p with cabinetLive := some Context.none }) ∧
        u.oms = e.oms ∧ u.heads = e.heads ∧ u.channels = e.channels ∧ u.rings = s.rings ∧ u.arbiter = s.arbiter ∧
        u.recipes = s.recipes ∧ u.faults = s.faults ∧ u.ports = s.ports

/-! ## Laws that every step keeps -/

/-- The four laws of Safety.lean hold right after power-on. What LinkLaw says of the receive buffer and of the
answer is the model's choice (log entries 9 and 10). -/
def Obligations.LawsHoldAtReset : Prop :=
  CabinetLaw State.reset ∧ LinkLaw State.reset ∧ PowerLaw State.reset ∧ ResultsLaw State.reset

/-- R144, R150, R154, R158: every step keeps severity QUENCH exactly in QUENCHED, setup values and time base exactly
outside UNCONFIGURED, the settling timer exactly in SETTLING, the dummy load exactly in PROOF. -/
def Obligations.StepsKeepCabinetLaw : Prop := ∀ s t : State, CabinetLaw s → step s = .next t → CabinetLaw t

/-- R172, R175: every step keeps LinkLaw. The model's choices: the receive buffer holds a frame exactly while a
request is in service (log entry 9), and the answer that is being sent stands on the link (log entry 10). -/
def Obligations.StepsKeepLinkLaw : Prop := ∀ s t : State, LinkLaw s → step s = .next t → LinkLaw t

/-- R61, R70: every step keeps committed power equal to the sum of the peak powers of the attempts, which are on
channels in TRANSFER or HEATING, and there is no attempt before setup. -/
def Obligations.StepsKeepPowerLaw : Prop := ∀ s t : State, PowerLaw s → step s = .next t → PowerLaw t

/-- R128: every step keeps RESULTS_PENDING on a port exactly while the port is the reader of a non-empty ring. -/
def Obligations.StepsKeepResultsLaw : Prop := ∀ s t : State, ResultsLaw s → step s = .next t → ResultsLaw t
end

