-- ==== Sys2Proof/Laws/State.lean ====
section
/-! SUPPORT. What each update of State does to each field: one lemma per field and update, so that no proof unfolds a
record update. -/

namespace Sys2Proof.Machine

variable (s : State)

/-! ### setPort -/

@[simp] theorem State.setPort_pending (p : Port) (x : PortState) : (s.setPort p x).pending = s.pending := rfl
@[simp] theorem State.setPort_ports (p : Port) (x : PortState) : (s.setPort p x).ports = s.ports.set p x := rfl
@[simp] theorem State.setPort_oms (p : Port) (x : PortState) : (s.setPort p x).oms = s.oms := rfl
@[simp] theorem State.setPort_recipes (p : Port) (x : PortState) : (s.setPort p x).recipes = s.recipes := rfl
@[simp] theorem State.setPort_bindings (p : Port) (x : PortState) : (s.setPort p x).bindings = s.bindings := rfl
@[simp] theorem State.setPort_family (p : Port) (x : PortState) : (s.setPort p x).family = s.family := rfl
@[simp] theorem State.setPort_defaults (p : Port) (x : PortState) : (s.setPort p x).defaults = s.defaults := rfl
@[simp] theorem State.setPort_heads (p : Port) (x : PortState) : (s.setPort p x).heads = s.heads := rfl
@[simp] theorem State.setPort_arbiter (p : Port) (x : PortState) : (s.setPort p x).arbiter = s.arbiter := rfl
@[simp] theorem State.setPort_channels (p : Port) (x : PortState) : (s.setPort p x).channels = s.channels := rfl
@[simp] theorem State.setPort_rings (p : Port) (x : PortState) : (s.setPort p x).rings = s.rings := rfl
@[simp] theorem State.setPort_faults (p : Port) (x : PortState) : (s.setPort p x).faults = s.faults := rfl
@[simp] theorem State.setPort_cabinet (p : Port) (x : PortState) : (s.setPort p x).cabinet = s.cabinet := rfl
@[simp] theorem State.setPort_units (p : Port) (x : PortState) : (s.setPort p x).units = s.units := rfl
@[simp] theorem State.setPort_draws (p : Port) (x : PortState) : (s.setPort p x).draws = s.draws := rfl
@[simp] theorem State.setPort_grants (p : Port) (x : PortState) : (s.setPort p x).grants = s.grants := rfl

/-! ### setOm -/

@[simp] theorem State.setOm_pending (l : Lane) (x : OrderManager) : (s.setOm l x).pending = s.pending := rfl
@[simp] theorem State.setOm_ports (l : Lane) (x : OrderManager) : (s.setOm l x).ports = s.ports := rfl
@[simp] theorem State.setOm_oms (l : Lane) (x : OrderManager) : (s.setOm l x).oms = s.oms.set l x := rfl
@[simp] theorem State.setOm_recipes (l : Lane) (x : OrderManager) : (s.setOm l x).recipes = s.recipes := rfl
@[simp] theorem State.setOm_bindings (l : Lane) (x : OrderManager) : (s.setOm l x).bindings = s.bindings := rfl
@[simp] theorem State.setOm_family (l : Lane) (x : OrderManager) : (s.setOm l x).family = s.family := rfl
@[simp] theorem State.setOm_defaults (l : Lane) (x : OrderManager) : (s.setOm l x).defaults = s.defaults := rfl
@[simp] theorem State.setOm_heads (l : Lane) (x : OrderManager) : (s.setOm l x).heads = s.heads := rfl
@[simp] theorem State.setOm_arbiter (l : Lane) (x : OrderManager) : (s.setOm l x).arbiter = s.arbiter := rfl
@[simp] theorem State.setOm_channels (l : Lane) (x : OrderManager) : (s.setOm l x).channels = s.channels := rfl
@[simp] theorem State.setOm_rings (l : Lane) (x : OrderManager) : (s.setOm l x).rings = s.rings := rfl
@[simp] theorem State.setOm_faults (l : Lane) (x : OrderManager) : (s.setOm l x).faults = s.faults := rfl
@[simp] theorem State.setOm_cabinet (l : Lane) (x : OrderManager) : (s.setOm l x).cabinet = s.cabinet := rfl
@[simp] theorem State.setOm_units (l : Lane) (x : OrderManager) : (s.setOm l x).units = s.units := rfl
@[simp] theorem State.setOm_draws (l : Lane) (x : OrderManager) : (s.setOm l x).draws = s.draws := rfl
@[simp] theorem State.setOm_grants (l : Lane) (x : OrderManager) : (s.setOm l x).grants = s.grants := rfl

/-! ### setHead -/

@[simp] theorem State.setHead_pending (h : HeadId) (x : HeadRec) : (s.setHead h x).pending = s.pending := rfl
@[simp] theorem State.setHead_ports (h : HeadId) (x : HeadRec) : (s.setHead h x).ports = s.ports := rfl
@[simp] theorem State.setHead_oms (h : HeadId) (x : HeadRec) : (s.setHead h x).oms = s.oms := rfl
@[simp] theorem State.setHead_recipes (h : HeadId) (x : HeadRec) : (s.setHead h x).recipes = s.recipes := rfl
@[simp] theorem State.setHead_bindings (h : HeadId) (x : HeadRec) : (s.setHead h x).bindings = s.bindings := rfl
@[simp] theorem State.setHead_family (h : HeadId) (x : HeadRec) : (s.setHead h x).family = s.family := rfl
@[simp] theorem State.setHead_defaults (h : HeadId) (x : HeadRec) : (s.setHead h x).defaults = s.defaults := rfl
@[simp] theorem State.setHead_heads (h : HeadId) (x : HeadRec) : (s.setHead h x).heads = s.heads.set h x := rfl
@[simp] theorem State.setHead_arbiter (h : HeadId) (x : HeadRec) : (s.setHead h x).arbiter = s.arbiter := rfl
@[simp] theorem State.setHead_channels (h : HeadId) (x : HeadRec) : (s.setHead h x).channels = s.channels := rfl
@[simp] theorem State.setHead_rings (h : HeadId) (x : HeadRec) : (s.setHead h x).rings = s.rings := rfl
@[simp] theorem State.setHead_faults (h : HeadId) (x : HeadRec) : (s.setHead h x).faults = s.faults := rfl
@[simp] theorem State.setHead_cabinet (h : HeadId) (x : HeadRec) : (s.setHead h x).cabinet = s.cabinet := rfl
@[simp] theorem State.setHead_units (h : HeadId) (x : HeadRec) : (s.setHead h x).units = s.units := rfl
@[simp] theorem State.setHead_draws (h : HeadId) (x : HeadRec) : (s.setHead h x).draws = s.draws := rfl
@[simp] theorem State.setHead_grants (h : HeadId) (x : HeadRec) : (s.setHead h x).grants = s.grants := rfl

/-! ### setChan -/

@[simp] theorem State.setChan_pending (c : ChannelId) (x : ChannelRec) : (s.setChan c x).pending = s.pending := rfl
@[simp] theorem State.setChan_ports (c : ChannelId) (x : ChannelRec) : (s.setChan c x).ports = s.ports := rfl
@[simp] theorem State.setChan_oms (c : ChannelId) (x : ChannelRec) : (s.setChan c x).oms = s.oms := rfl
@[simp] theorem State.setChan_recipes (c : ChannelId) (x : ChannelRec) : (s.setChan c x).recipes = s.recipes := rfl
@[simp] theorem State.setChan_bindings (c : ChannelId) (x : ChannelRec) : (s.setChan c x).bindings = s.bindings := rfl
@[simp] theorem State.setChan_family (c : ChannelId) (x : ChannelRec) : (s.setChan c x).family = s.family := rfl
@[simp] theorem State.setChan_defaults (c : ChannelId) (x : ChannelRec) : (s.setChan c x).defaults = s.defaults := rfl
@[simp] theorem State.setChan_heads (c : ChannelId) (x : ChannelRec) : (s.setChan c x).heads = s.heads := rfl
@[simp] theorem State.setChan_arbiter (c : ChannelId) (x : ChannelRec) : (s.setChan c x).arbiter = s.arbiter := rfl
@[simp] theorem State.setChan_channels (c : ChannelId) (x : ChannelRec) : (s.setChan c x).channels = s.channels.set c x := rfl
@[simp] theorem State.setChan_rings (c : ChannelId) (x : ChannelRec) : (s.setChan c x).rings = s.rings := rfl
@[simp] theorem State.setChan_faults (c : ChannelId) (x : ChannelRec) : (s.setChan c x).faults = s.faults := rfl
@[simp] theorem State.setChan_cabinet (c : ChannelId) (x : ChannelRec) : (s.setChan c x).cabinet = s.cabinet := rfl
@[simp] theorem State.setChan_units (c : ChannelId) (x : ChannelRec) : (s.setChan c x).units = s.units := rfl
@[simp] theorem State.setChan_draws (c : ChannelId) (x : ChannelRec) : (s.setChan c x).draws = s.draws := rfl
@[simp] theorem State.setChan_grants (c : ChannelId) (x : ChannelRec) : (s.setChan c x).grants = s.grants := rfl

/-! ### setRing -/

@[simp] theorem State.setRing_pending (l : Lane) (x : Ring) : (s.setRing l x).pending = s.pending := rfl
@[simp] theorem State.setRing_ports (l : Lane) (x : Ring) : (s.setRing l x).ports = s.ports := rfl
@[simp] theorem State.setRing_oms (l : Lane) (x : Ring) : (s.setRing l x).oms = s.oms := rfl
@[simp] theorem State.setRing_recipes (l : Lane) (x : Ring) : (s.setRing l x).recipes = s.recipes := rfl
@[simp] theorem State.setRing_bindings (l : Lane) (x : Ring) : (s.setRing l x).bindings = s.bindings := rfl
@[simp] theorem State.setRing_family (l : Lane) (x : Ring) : (s.setRing l x).family = s.family := rfl
@[simp] theorem State.setRing_defaults (l : Lane) (x : Ring) : (s.setRing l x).defaults = s.defaults := rfl
@[simp] theorem State.setRing_heads (l : Lane) (x : Ring) : (s.setRing l x).heads = s.heads := rfl
@[simp] theorem State.setRing_arbiter (l : Lane) (x : Ring) : (s.setRing l x).arbiter = s.arbiter := rfl
@[simp] theorem State.setRing_channels (l : Lane) (x : Ring) : (s.setRing l x).channels = s.channels := rfl
@[simp] theorem State.setRing_rings (l : Lane) (x : Ring) : (s.setRing l x).rings = s.rings.set l x := rfl
@[simp] theorem State.setRing_faults (l : Lane) (x : Ring) : (s.setRing l x).faults = s.faults := rfl
@[simp] theorem State.setRing_cabinet (l : Lane) (x : Ring) : (s.setRing l x).cabinet = s.cabinet := rfl
@[simp] theorem State.setRing_units (l : Lane) (x : Ring) : (s.setRing l x).units = s.units := rfl
@[simp] theorem State.setRing_draws (l : Lane) (x : Ring) : (s.setRing l x).draws = s.draws := rfl
@[simp] theorem State.setRing_grants (l : Lane) (x : Ring) : (s.setRing l x).grants = s.grants := rfl

/-! ### setUnit -/

@[simp] theorem State.setUnit_pending (p : Port) (x : EventUnit) : (s.setUnit p x).pending = s.pending := rfl
@[simp] theorem State.setUnit_ports (p : Port) (x : EventUnit) : (s.setUnit p x).ports = s.ports := rfl
@[simp] theorem State.setUnit_oms (p : Port) (x : EventUnit) : (s.setUnit p x).oms = s.oms := rfl
@[simp] theorem State.setUnit_recipes (p : Port) (x : EventUnit) : (s.setUnit p x).recipes = s.recipes := rfl
@[simp] theorem State.setUnit_bindings (p : Port) (x : EventUnit) : (s.setUnit p x).bindings = s.bindings := rfl
@[simp] theorem State.setUnit_family (p : Port) (x : EventUnit) : (s.setUnit p x).family = s.family := rfl
@[simp] theorem State.setUnit_defaults (p : Port) (x : EventUnit) : (s.setUnit p x).defaults = s.defaults := rfl
@[simp] theorem State.setUnit_heads (p : Port) (x : EventUnit) : (s.setUnit p x).heads = s.heads := rfl
@[simp] theorem State.setUnit_arbiter (p : Port) (x : EventUnit) : (s.setUnit p x).arbiter = s.arbiter := rfl
@[simp] theorem State.setUnit_channels (p : Port) (x : EventUnit) : (s.setUnit p x).channels = s.channels := rfl
@[simp] theorem State.setUnit_rings (p : Port) (x : EventUnit) : (s.setUnit p x).rings = s.rings := rfl
@[simp] theorem State.setUnit_faults (p : Port) (x : EventUnit) : (s.setUnit p x).faults = s.faults := rfl
@[simp] theorem State.setUnit_cabinet (p : Port) (x : EventUnit) : (s.setUnit p x).cabinet = s.cabinet := rfl
@[simp] theorem State.setUnit_units (p : Port) (x : EventUnit) : (s.setUnit p x).units = s.units.set p x := rfl
@[simp] theorem State.setUnit_draws (p : Port) (x : EventUnit) : (s.setUnit p x).draws = s.draws := rfl
@[simp] theorem State.setUnit_grants (p : Port) (x : EventUnit) : (s.setUnit p x).grants = s.grants := rfl

/-! ### setArbiter -/

@[simp] theorem State.setArbiter_pending (x : Arbiter) : (s.setArbiter x).pending = s.pending := rfl
@[simp] theorem State.setArbiter_ports (x : Arbiter) : (s.setArbiter x).ports = s.ports := rfl
@[simp] theorem State.setArbiter_oms (x : Arbiter) : (s.setArbiter x).oms = s.oms := rfl
@[simp] theorem State.setArbiter_recipes (x : Arbiter) : (s.setArbiter x).recipes = s.recipes := rfl
@[simp] theorem State.setArbiter_bindings (x : Arbiter) : (s.setArbiter x).bindings = s.bindings := rfl
@[simp] theorem State.setArbiter_family (x : Arbiter) : (s.setArbiter x).family = s.family := rfl
@[simp] theorem State.setArbiter_defaults (x : Arbiter) : (s.setArbiter x).defaults = s.defaults := rfl
@[simp] theorem State.setArbiter_heads (x : Arbiter) : (s.setArbiter x).heads = s.heads := rfl
@[simp] theorem State.setArbiter_arbiter (x : Arbiter) : (s.setArbiter x).arbiter = x := rfl
@[simp] theorem State.setArbiter_channels (x : Arbiter) : (s.setArbiter x).channels = s.channels := rfl
@[simp] theorem State.setArbiter_rings (x : Arbiter) : (s.setArbiter x).rings = s.rings := rfl
@[simp] theorem State.setArbiter_faults (x : Arbiter) : (s.setArbiter x).faults = s.faults := rfl
@[simp] theorem State.setArbiter_cabinet (x : Arbiter) : (s.setArbiter x).cabinet = s.cabinet := rfl
@[simp] theorem State.setArbiter_units (x : Arbiter) : (s.setArbiter x).units = s.units := rfl
@[simp] theorem State.setArbiter_draws (x : Arbiter) : (s.setArbiter x).draws = s.draws := rfl
@[simp] theorem State.setArbiter_grants (x : Arbiter) : (s.setArbiter x).grants = s.grants := rfl

/-! ### setFaults -/

@[simp] theorem State.setFaults_pending (x : FaultControl) : (s.setFaults x).pending = s.pending := rfl
@[simp] theorem State.setFaults_ports (x : FaultControl) : (s.setFaults x).ports = s.ports := rfl
@[simp] theorem State.setFaults_oms (x : FaultControl) : (s.setFaults x).oms = s.oms := rfl
@[simp] theorem State.setFaults_recipes (x : FaultControl) : (s.setFaults x).recipes = s.recipes := rfl
@[simp] theorem State.setFaults_bindings (x : FaultControl) : (s.setFaults x).bindings = s.bindings := rfl
@[simp] theorem State.setFaults_family (x : FaultControl) : (s.setFaults x).family = s.family := rfl
@[simp] theorem State.setFaults_defaults (x : FaultControl) : (s.setFaults x).defaults = s.defaults := rfl
@[simp] theorem State.setFaults_heads (x : FaultControl) : (s.setFaults x).heads = s.heads := rfl
@[simp] theorem State.setFaults_arbiter (x : FaultControl) : (s.setFaults x).arbiter = s.arbiter := rfl
@[simp] theorem State.setFaults_channels (x : FaultControl) : (s.setFaults x).channels = s.channels := rfl
@[simp] theorem State.setFaults_rings (x : FaultControl) : (s.setFaults x).rings = s.rings := rfl
@[simp] theorem State.setFaults_faults (x : FaultControl) : (s.setFaults x).faults = x := rfl
@[simp] theorem State.setFaults_cabinet (x : FaultControl) : (s.setFaults x).cabinet = s.cabinet := rfl
@[simp] theorem State.setFaults_units (x : FaultControl) : (s.setFaults x).units = s.units := rfl
@[simp] theorem State.setFaults_draws (x : FaultControl) : (s.setFaults x).draws = s.draws := rfl
@[simp] theorem State.setFaults_grants (x : FaultControl) : (s.setFaults x).grants = s.grants := rfl

/-! ### setCabinet -/

@[simp] theorem State.setCabinet_pending (x : Cabinet) : (s.setCabinet x).pending = s.pending := rfl
@[simp] theorem State.setCabinet_ports (x : Cabinet) : (s.setCabinet x).ports = s.ports := rfl
@[simp] theorem State.setCabinet_oms (x : Cabinet) : (s.setCabinet x).oms = s.oms := rfl
@[simp] theorem State.setCabinet_recipes (x : Cabinet) : (s.setCabinet x).recipes = s.recipes := rfl
@[simp] theorem State.setCabinet_bindings (x : Cabinet) : (s.setCabinet x).bindings = s.bindings := rfl
@[simp] theorem State.setCabinet_family (x : Cabinet) : (s.setCabinet x).family = s.family := rfl
@[simp] theorem State.setCabinet_defaults (x : Cabinet) : (s.setCabinet x).defaults = s.defaults := rfl
@[simp] theorem State.setCabinet_heads (x : Cabinet) : (s.setCabinet x).heads = s.heads := rfl
@[simp] theorem State.setCabinet_arbiter (x : Cabinet) : (s.setCabinet x).arbiter = s.arbiter := rfl
@[simp] theorem State.setCabinet_channels (x : Cabinet) : (s.setCabinet x).channels = s.channels := rfl
@[simp] theorem State.setCabinet_rings (x : Cabinet) : (s.setCabinet x).rings = s.rings := rfl
@[simp] theorem State.setCabinet_faults (x : Cabinet) : (s.setCabinet x).faults = s.faults := rfl
@[simp] theorem State.setCabinet_cabinet (x : Cabinet) : (s.setCabinet x).cabinet = x := rfl
@[simp] theorem State.setCabinet_units (x : Cabinet) : (s.setCabinet x).units = s.units := rfl
@[simp] theorem State.setCabinet_draws (x : Cabinet) : (s.setCabinet x).draws = s.draws := rfl
@[simp] theorem State.setCabinet_grants (x : Cabinet) : (s.setCabinet x).grants = s.grants := rfl

/-! ### countGrant -/

@[simp] theorem State.countGrant_pending : s.countGrant.pending = s.pending := rfl
@[simp] theorem State.countGrant_ports : s.countGrant.ports = s.ports := rfl
@[simp] theorem State.countGrant_oms : s.countGrant.oms = s.oms := rfl
@[simp] theorem State.countGrant_recipes : s.countGrant.recipes = s.recipes := rfl
@[simp] theorem State.countGrant_bindings : s.countGrant.bindings = s.bindings := rfl
@[simp] theorem State.countGrant_family : s.countGrant.family = s.family := rfl
@[simp] theorem State.countGrant_defaults : s.countGrant.defaults = s.defaults := rfl
@[simp] theorem State.countGrant_heads : s.countGrant.heads = s.heads := rfl
@[simp] theorem State.countGrant_arbiter : s.countGrant.arbiter = s.arbiter := rfl
@[simp] theorem State.countGrant_channels : s.countGrant.channels = s.channels := rfl
@[simp] theorem State.countGrant_rings : s.countGrant.rings = s.rings := rfl
@[simp] theorem State.countGrant_faults : s.countGrant.faults = s.faults := rfl
@[simp] theorem State.countGrant_cabinet : s.countGrant.cabinet = s.cabinet := rfl
@[simp] theorem State.countGrant_units : s.countGrant.units = s.units := rfl
@[simp] theorem State.countGrant_draws : s.countGrant.draws = s.draws := rfl
@[simp] theorem State.countGrant_grants : s.countGrant.grants = s.grants + 1 := rfl

/-! ### mapHeads -/

@[simp] theorem State.mapHeads_pending (f : HeadId → HeadRec → HeadRec) : (s.mapHeads f).pending = s.pending := rfl
@[simp] theorem State.mapHeads_ports (f : HeadId → HeadRec → HeadRec) : (s.mapHeads f).ports = s.ports := rfl
@[simp] theorem State.mapHeads_oms (f : HeadId → HeadRec → HeadRec) : (s.mapHeads f).oms = s.oms := rfl
@[simp] theorem State.mapHeads_recipes (f : HeadId → HeadRec → HeadRec) : (s.mapHeads f).recipes = s.recipes := rfl
@[simp] theorem State.mapHeads_bindings (f : HeadId → HeadRec → HeadRec) : (s.mapHeads f).bindings = s.bindings := rfl
@[simp] theorem State.mapHeads_family (f : HeadId → HeadRec → HeadRec) : (s.mapHeads f).family = s.family := rfl
@[simp] theorem State.mapHeads_defaults (f : HeadId → HeadRec → HeadRec) : (s.mapHeads f).defaults = s.defaults := rfl
@[simp] theorem State.mapHeads_heads (f : HeadId → HeadRec → HeadRec) : (s.mapHeads f).heads = tabulate fun h => f h (s.head h) := rfl
@[simp] theorem State.mapHeads_arbiter (f : HeadId → HeadRec → HeadRec) : (s.mapHeads f).arbiter = s.arbiter := rfl
@[simp] theorem State.mapHeads_channels (f : HeadId → HeadRec → HeadRec) : (s.mapHeads f).channels = s.channels := rfl
@[simp] theorem State.mapHeads_rings (f : HeadId → HeadRec → HeadRec) : (s.mapHeads f).rings = s.rings := rfl
@[simp] theorem State.mapHeads_faults (f : HeadId → HeadRec → HeadRec) : (s.mapHeads f).faults = s.faults := rfl
@[simp] theorem State.mapHeads_cabinet (f : HeadId → HeadRec → HeadRec) : (s.mapHeads f).cabinet = s.cabinet := rfl
@[simp] theorem State.mapHeads_units (f : HeadId → HeadRec → HeadRec) : (s.mapHeads f).units = s.units := rfl
@[simp] theorem State.mapHeads_draws (f : HeadId → HeadRec → HeadRec) : (s.mapHeads f).draws = s.draws := rfl
@[simp] theorem State.mapHeads_grants (f : HeadId → HeadRec → HeadRec) : (s.mapHeads f).grants = s.grants := rfl

/-! ### mapChans -/

@[simp] theorem State.mapChans_pending (f : ChannelId → ChannelRec → ChannelRec) : (s.mapChans f).pending = s.pending := rfl
@[simp] theorem State.mapChans_ports (f : ChannelId → ChannelRec → ChannelRec) : (s.mapChans f).ports = s.ports := rfl
@[simp] theorem State.mapChans_oms (f : ChannelId → ChannelRec → ChannelRec) : (s.mapChans f).oms = s.oms := rfl
@[simp] theorem State.mapChans_recipes (f : ChannelId → ChannelRec → ChannelRec) : (s.mapChans f).recipes = s.recipes := rfl
@[simp] theorem State.mapChans_bindings (f : ChannelId → ChannelRec → ChannelRec) : (s.mapChans f).bindings = s.bindings := rfl
@[simp] theorem State.mapChans_family (f : ChannelId → ChannelRec → ChannelRec) : (s.mapChans f).family = s.family := rfl
@[simp] theorem State.mapChans_defaults (f : ChannelId → ChannelRec → ChannelRec) : (s.mapChans f).defaults = s.defaults := rfl
@[simp] theorem State.mapChans_heads (f : ChannelId → ChannelRec → ChannelRec) : (s.mapChans f).heads = s.heads := rfl
@[simp] theorem State.mapChans_arbiter (f : ChannelId → ChannelRec → ChannelRec) : (s.mapChans f).arbiter = s.arbiter := rfl
@[simp] theorem State.mapChans_channels (f : ChannelId → ChannelRec → ChannelRec) : (s.mapChans f).channels = tabulate fun c => f c (s.chan c) := rfl
@[simp] theorem State.mapChans_rings (f : ChannelId → ChannelRec → ChannelRec) : (s.mapChans f).rings = s.rings := rfl
@[simp] theorem State.mapChans_faults (f : ChannelId → ChannelRec → ChannelRec) : (s.mapChans f).faults = s.faults := rfl
@[simp] theorem State.mapChans_cabinet (f : ChannelId → ChannelRec → ChannelRec) : (s.mapChans f).cabinet = s.cabinet := rfl
@[simp] theorem State.mapChans_units (f : ChannelId → ChannelRec → ChannelRec) : (s.mapChans f).units = s.units := rfl
@[simp] theorem State.mapChans_draws (f : ChannelId → ChannelRec → ChannelRec) : (s.mapChans f).draws = s.draws := rfl
@[simp] theorem State.mapChans_grants (f : ChannelId → ChannelRec → ChannelRec) : (s.mapChans f).grants = s.grants := rfl

/-! ### addRefs -/

@[simp] theorem State.addRefs_pending (set : List RecipeId) : (s.addRefs set).pending = s.pending := rfl
@[simp] theorem State.addRefs_ports (set : List RecipeId) : (s.addRefs set).ports = s.ports := rfl
@[simp] theorem State.addRefs_oms (set : List RecipeId) : (s.addRefs set).oms = s.oms := rfl
@[simp] theorem State.addRefs_bindings (set : List RecipeId) : (s.addRefs set).bindings = s.bindings := rfl
@[simp] theorem State.addRefs_family (set : List RecipeId) : (s.addRefs set).family = s.family := rfl
@[simp] theorem State.addRefs_defaults (set : List RecipeId) : (s.addRefs set).defaults = s.defaults := rfl
@[simp] theorem State.addRefs_heads (set : List RecipeId) : (s.addRefs set).heads = s.heads := rfl
@[simp] theorem State.addRefs_arbiter (set : List RecipeId) : (s.addRefs set).arbiter = s.arbiter := rfl
@[simp] theorem State.addRefs_channels (set : List RecipeId) : (s.addRefs set).channels = s.channels := rfl
@[simp] theorem State.addRefs_rings (set : List RecipeId) : (s.addRefs set).rings = s.rings := rfl
@[simp] theorem State.addRefs_faults (set : List RecipeId) : (s.addRefs set).faults = s.faults := rfl
@[simp] theorem State.addRefs_cabinet (set : List RecipeId) : (s.addRefs set).cabinet = s.cabinet := rfl
@[simp] theorem State.addRefs_units (set : List RecipeId) : (s.addRefs set).units = s.units := rfl
@[simp] theorem State.addRefs_draws (set : List RecipeId) : (s.addRefs set).draws = s.draws := rfl
@[simp] theorem State.addRefs_grants (set : List RecipeId) : (s.addRefs set).grants = s.grants := rfl

/-! ### dropRefs -/

@[simp] theorem State.dropRefs_pending (set : List RecipeId) : (s.dropRefs set).pending = s.pending := rfl
@[simp] theorem State.dropRefs_ports (set : List RecipeId) : (s.dropRefs set).ports = s.ports := rfl
@[simp] theorem State.dropRefs_oms (set : List RecipeId) : (s.dropRefs set).oms = s.oms := rfl
@[simp] theorem State.dropRefs_bindings (set : List RecipeId) : (s.dropRefs set).bindings = s.bindings := rfl
@[simp] theorem State.dropRefs_family (set : List RecipeId) : (s.dropRefs set).family = s.family := rfl
@[simp] theorem State.dropRefs_defaults (set : List RecipeId) : (s.dropRefs set).defaults = s.defaults := rfl
@[simp] theorem State.dropRefs_heads (set : List RecipeId) : (s.dropRefs set).heads = s.heads := rfl
@[simp] theorem State.dropRefs_arbiter (set : List RecipeId) : (s.dropRefs set).arbiter = s.arbiter := rfl
@[simp] theorem State.dropRefs_channels (set : List RecipeId) : (s.dropRefs set).channels = s.channels := rfl
@[simp] theorem State.dropRefs_rings (set : List RecipeId) : (s.dropRefs set).rings = s.rings := rfl
@[simp] theorem State.dropRefs_faults (set : List RecipeId) : (s.dropRefs set).faults = s.faults := rfl
@[simp] theorem State.dropRefs_cabinet (set : List RecipeId) : (s.dropRefs set).cabinet = s.cabinet := rfl
@[simp] theorem State.dropRefs_units (set : List RecipeId) : (s.dropRefs set).units = s.units := rfl
@[simp] theorem State.dropRefs_draws (set : List RecipeId) : (s.dropRefs set).draws = s.draws := rfl
@[simp] theorem State.dropRefs_grants (set : List RecipeId) : (s.dropRefs set).grants = s.grants := rfl

/-! ### The updates that apply a function -/

@[simp] theorem State.modOm_eq (l : Lane) (f : OrderManager → OrderManager) : s.modOm l f = s.setOm l (f (s.om l)) := rfl
@[simp] theorem State.modHead_eq (h : HeadId) (f : HeadRec → HeadRec) : s.modHead h f = s.setHead h (f (s.head h)) := rfl
@[simp] theorem State.modChan_eq (c : ChannelId) (f : ChannelRec → ChannelRec) :
    s.modChan c f = s.setChan c (f (s.chan c)) := rfl
@[simp] theorem State.modRing_eq (l : Lane) (f : Ring → Ring) : s.modRing l f = s.setRing l (f (s.ring l)) := rfl
@[simp] theorem State.modUnit_eq (p : Port) (f : EventUnit → EventUnit) : s.modUnit p f = s.setUnit p (f (s.unit p)) := rfl
@[simp] theorem State.modArbiter_eq (f : Arbiter → Arbiter) : s.modArbiter f = s.setArbiter (f s.arbiter) := rfl

end Sys2Proof.Machine
end

