-- ==== Sys2Proof/Laws/Tables.lean ====
section
/-! SUPPORT. Reading a table after writing it: lanes, ports, heads, channels, slots. -/

namespace Sys2Proof.Machine

/-! ### Lanes and ports -/

@[simp] theorem LaneTbl.get_set {α : Type} (t : LaneTbl α) (l m : Lane) (x : α) :
    (t.set l x).get m = if m = l then x else t.get m := by cases l <;> cases m <;> rfl

@[simp] theorem PortTbl.get_set {α : Type} (t : PortTbl α) (p q : Port) (x : α) :
    (t.set p x).get q = if q = p then x else t.get q := by cases p <;> cases q <;> rfl

theorem LaneTbl.ext {α : Type} {t u : LaneTbl α} (h : ∀ l, t.get l = u.get l) : t = u := by
  cases t; cases u; have ha := h .a; have hb := h .b; simp only [LaneTbl.get] at ha hb; subst ha; subst hb; rfl

theorem PortTbl.ext {α : Type} {t u : PortTbl α} (h : ∀ p, t.get p = u.get p) : t = u := by
  cases t; cases u
  have ha := h .laneA; have hb := h .laneB; have hs := h .supervisor
  simp only [PortTbl.get] at ha hb hs; subst ha; subst hb; subst hs; rfl

/-! ### Vectors -/

@[simp] theorem get_tabulate {α : Type} {n : Nat} (f : Fin n → α) (i : Fin n) : (tabulate f).get i = f i := by
  rw [Vector.get_eq_getElem]; simp [tabulate]

@[simp] theorem Vector.get_set_fin {α : Type} {n : Nat} (v : Vector α n) (i j : Fin n) (x : α) :
    (v.set i x).get j = if j = i then x else v.get j := by
  rw [Vector.get_eq_getElem, Vector.get_eq_getElem, Vector.getElem_set]
  by_cases h : j = i
  · subst h; simp
  · have : (i : Nat) ≠ j := fun e => h (Fin.ext e.symm)
    simp [h, this]

/-! ### The blocks of State -/

variable (s : State)

@[simp] theorem State.port_setPort (p q : Port) (x : PortState) :
    (s.setPort p x).port q = if q = p then x else s.port q := by simp [State.port]
@[simp] theorem State.om_setOm (l m : Lane) (x : OrderManager) :
    (s.setOm l x).om m = if m = l then x else s.om m := by simp [State.om]
@[simp] theorem State.head_setHead (h i : HeadId) (x : HeadRec) :
    (s.setHead h x).head i = if i = h then x else s.head i := by simp [State.head]
@[simp] theorem State.chan_setChan (c d : ChannelId) (x : ChannelRec) :
    (s.setChan c x).chan d = if d = c then x else s.chan d := by simp [State.chan]
@[simp] theorem State.ring_setRing (l m : Lane) (x : Ring) :
    (s.setRing l x).ring m = if m = l then x else s.ring m := by simp [State.ring]
@[simp] theorem State.unit_setUnit (p q : Port) (x : EventUnit) :
    (s.setUnit p x).unit q = if q = p then x else s.unit q := by simp [State.unit]
@[simp] theorem State.head_mapHeads (f : HeadId → HeadRec → HeadRec) (h : HeadId) :
    (s.mapHeads f).head h = f h (s.head h) := by simp [State.head]
@[simp] theorem State.chan_mapChans (f : ChannelId → ChannelRec → ChannelRec) (c : ChannelId) :
    (s.mapChans f).chan c = f c (s.chan c) := by simp [State.chan]

@[simp] theorem State.chan_setArbiter (x : Arbiter) (c : ChannelId) : (s.setArbiter x).chan c = s.chan c := rfl

/-! ### A block is read alike in two states that agree on its field -/

theorem State.port_congr {s t : State} (h : t.ports = s.ports) (p : Port) : t.port p = s.port p := by
  simp [State.port, h]
theorem State.om_congr {s t : State} (h : t.oms = s.oms) (l : Lane) : t.om l = s.om l := by simp [State.om, h]
theorem State.head_congr {s t : State} (h : t.heads = s.heads) (i : HeadId) : t.head i = s.head i := by
  simp [State.head, h]
theorem State.chan_congr {s t : State} (h : t.channels = s.channels) (c : ChannelId) : t.chan c = s.chan c := by
  simp [State.chan, h]
theorem State.ring_congr {s t : State} (h : t.rings = s.rings) (l : Lane) : t.ring l = s.ring l := by
  simp [State.ring, h]
theorem State.unit_congr {s t : State} (h : t.units = s.units) (p : Port) : t.unit p = s.unit p := by
  simp [State.unit, h]
theorem State.order_congr {s t : State} (h : t.oms = s.oms) (l : Lane) (k : SlotId) : t.order l k = s.order l k := by
  simp [State.order, State.om_congr h]

/-! ### Slots -/

theorem State.order_setSlot (l m : Lane) (k n : SlotId) (o : Option Order) :
    (s.setSlot l k o).order m n = if m = l ∧ n = k then o else s.order m n := by
  by_cases hm : m = l
  · subst hm; by_cases hn : n = k <;> simp [State.setSlot, State.order, hn]
  · simp [State.setSlot, State.order, hm]

theorem State.order_modOrder (l m : Lane) (k n : SlotId) (f : Order → Order) :
    (s.modOrder l k f).order m n = if m = l ∧ n = k then (s.order l k).map f else s.order m n := by
  unfold State.modOrder
  split
  · rename_i o h; rw [State.order_setSlot]; simp [h]
  · rename_i h
    split
    · rename_i e; rw [e.1, e.2]; simp [h]
    · rfl

end Sys2Proof.Machine
end

