-- ==== Sys2Proof/Laws/Activation.lean ====
section
/-! SUPPORT. Activation goes on from order to order: each round takes a POSTED order, and four rounds are enough. -/

namespace Sys2Proof.Machine

variable (s : State)

/-- The slot holds a POSTED order. -/
def State.isPosted (s : State) (l : Lane) (k : SlotId) : Bool := (s.order l k).any fun o => o.state == .posted

/-- How many POSTED orders a lane has. -/
def State.postedCount (s : State) (l : Lane) : Nat := (allSlots.filter (s.isPosted l)).length

theorem State.isPosted_setSlot (l : Lane) (k n : SlotId) (o : Option Order) :
    (s.setSlot l k o).isPosted l n = if n = k then o.any (fun x => x.state == .posted) else s.isPosted l n := by
  simp only [State.isPosted, State.order_setSlot]
  split <;> simp_all

/-- An update of an order that keeps its order state keeps which slots are POSTED. -/
theorem State.isPosted_modOrder {f : Order → Order} (hf : ∀ o, (f o).state = o.state) (l m : Lane) (k n : SlotId) :
    (s.modOrder m k f).isPosted l n = s.isPosted l n := by
  simp only [State.isPosted, State.order_modOrder]
  split
  · rename_i h; obtain ⟨rfl, rfl⟩ := h
    cases s.order l n <;> simp [hf]
  · rfl

theorem State.isPosted_modJoint {f : Joint → Joint} (l m : Lane) (k n : SlotId) (i : Nat) :
    (s.modJoint m k i f).isPosted l n = s.isPosted l n :=
  s.isPosted_modOrder (f := fun o => o.modJoint i f) (fun _ => rfl) l m k n

theorem State.isPosted_congr {s t : State} (h : t.oms = s.oms) (l : Lane) (n : SlotId) :
    t.isPosted l n = s.isPosted l n := by simp [State.isPosted, State.order_congr h]

theorem State.isPosted_modHead (l : Lane) (n : SlotId) (h : HeadId) (f : HeadRec → HeadRec) :
    (s.modHead h f).isPosted l n = s.isPosted l n := State.isPosted_congr rfl l n

theorem State.isPosted_post (l : Lane) (n : SlotId) (p : Port) (k : PostedKind) (c : Context) :
    (s.post p k c).isPosted l n = s.isPosted l n := State.isPosted_congr rfl l n

theorem State.isPosted_modOm {f : OrderManager → OrderManager} (hf : ∀ om, (f om).slots = om.slots) (l m : Lane)
    (n : SlotId) : (s.modOm m f).isPosted l n = s.isPosted l n := by
  by_cases h : l = m
  · subst h; simp [State.isPosted, State.order, hf]
  · simp [State.isPosted, State.order, h]

theorem State.isPosted_frontArrival (l m : Lane) (h : HeadId) (n : SlotId) :
    (s.frontArrival m h).isPosted l n = s.isPosted l n := by
  unfold State.frontArrival
  repeat' split
  all_goals simp only [State.isPosted_modHead, State.isPosted_modJoint]

theorem State.isPosted_nearDoneTest (l m : Lane) (n : SlotId) : (s.nearDoneTest m).isPosted l n = s.isPosted l n := by
  unfold State.nearDoneTest
  repeat' split
  · rfl
  · rw [State.isPosted_post, State.isPosted_modOrder]; intro; rfl
  · rfl

/-- The order that activates leaves POSTED; the other slots of the lane stay as they were. -/
theorem State.isPosted_activate (l : Lane) (k n : SlotId) (o : Order) :
    (s.activate l k o).isPosted l n = (if n = k then false else s.isPosted l n) := by
  have hf : ∀ (hs : List HeadId) (t : State),
      (hs.foldl (fun t h => t.frontArrival l h) t).isPosted l n = t.isPosted l n := by
    intro hs
    induction hs with
    | nil => intro t; rfl
    | cons h hs ih => intro t; rw [List.foldl_cons, ih, State.isPosted_frontArrival]
  rw [State.activate, State.isPosted_nearDoneTest, hf, State.isPosted_setSlot]
  split
  · rfl
  · rw [State.isPosted_modOm]
    · exact State.isPosted_congr rfl l n
    · intro; rfl

theorem State.writeRecord_oms (l : Lane) (rec : Record) : (s.writeRecord l rec).oms = s.oms := by
  unfold State.writeRecord State.appendRecord
  dsimp only
  split <;> rfl

/-- A completion frees its slot; the other slots of the lane stay as they were. -/
theorem State.isPosted_finishOrder (l : Lane) (k n : SlotId) (o : Order) (kind : CompletionKind) :
    (s.finishOrder l k o kind).isPosted l n = (if n = k then false else s.isPosted l n) := by
  rw [State.finishOrder, State.freeSlot, State.isPosted_post, State.isPosted_post]
  refine (State.isPosted_congr (State.dropRefs_oms ..) l n).trans ?_
  rw [State.isPosted_setSlot]
  split
  · rfl
  · refine (State.isPosted_congr (State.setUnit_oms ..) l n).trans ?_
    rw [State.isPosted_modOm]
    · exact State.isPosted_congr (State.writeRecord_oms ..) l n
    · intro; rfl

/-- The order a lane can activate stands in a POSTED slot. -/
theorem State.isPosted_of_activatable {l : Lane} {k : SlotId} {o : Order} (h : s.activatable l = some (k, o)) :
    s.isPosted l k = true := by
  unfold State.activatable at h
  split at h
  · split at h
    · rename_i k' o' ho
      split at h
      · obtain ⟨rfl, rfl⟩ : k' = k ∧ o' = o := by simpa using h
        have hm := List.mem_of_head? ho
        simp only [State.postedOrders, List.mem_filterMap] at hm
        obtain ⟨n, -, hn⟩ := hm
        unfold postedOnly at hn
        split at hn
        · rename_i x hx
          split at hn
          · rename_i hp; obtain ⟨rfl, rfl⟩ : n = k' ∧ x = o' := by simpa using hn
            simp [State.isPosted, hx, hp]
          · cases hn
        · cases hn
      · cases h
    · cases h
  · cases h

/-- A completion in the round of an activation leaves one POSTED order less. -/
theorem State.postedCount_finish_activate {l : Lane} {k k1 : SlotId} {o o1 : Order} (kind : CompletionKind)
    (h : s.activatable l = some (k, o)) :
    ((s.activate l k o).finishOrder l k1 o1 kind).postedCount l < s.postedCount l := by
  have hp : ∀ n, ((s.activate l k o).finishOrder l k1 o1 kind).isPosted l n = true → s.isPosted l n = true ∧ n ≠ k := by
    intro n
    rw [State.isPosted_finishOrder, State.isPosted_activate]
    by_cases h1 : n = k1 <;> by_cases h2 : n = k <;> simp [h1, h2]
  have hsub : (allSlots.filter (((s.activate l k o).finishOrder l k1 o1 kind).isPosted l)).Sublist
      ((allSlots.filter (s.isPosted l)).filter (· != k)) := by
    rw [List.filter_filter]
    exact List.monotone_filter_right _ fun n hn => by simpa [and_comm] using hp n hn
  have hk : k ∈ allSlots.filter (s.isPosted l) := by simp [allSlots, s.isPosted_of_activatable h]
  exact lt_of_le_of_lt hsub.length_le (List.length_filter_lt_length_iff_exists.mpr ⟨k, hk, by simp⟩)

/-- Rounds beyond the number of POSTED orders change nothing. -/
theorem activationRounds_of_postedCount_le {n : Nat} {l : Lane} {s : State} (h : s.postedCount l ≤ n) :
    activationRounds (n + 1) l s = activationRounds n l s := by
  induction n generalizing s with
  | zero =>
    have : s.activatable l = none := by
      cases ha : s.activatable l with
      | none => rfl
      | some x =>
        have h1 : x.1 ∈ allSlots.filter (s.isPosted l) := by simp [allSlots, s.isPosted_of_activatable (o := x.2) ha]
        have h2 : (allSlots.filter (s.isPosted l)) = [] := List.length_eq_zero_iff.mp (Nat.le_zero.mp h)
        rw [h2] at h1; cases h1
    simp [activationRounds, this]
  | succ n ih =>
    rw [activationRounds]; conv => rhs; rw [activationRounds]
    cases ha : s.activatable l with
    | none => rfl
    | some x =>
      obtain ⟨k, o⟩ := x
      dsimp only
      cases (s.activate l k o).active l with
      | none => rfl
      | some y =>
        dsimp only
        split
        · exact ih (Nat.lt_succ_iff.mp (lt_of_lt_of_le (s.postedCount_finish_activate _ ha) h))
        · rfl

/-- An order whose joints all have outcomes at its activation completes at once, and the next is tried (R8, R12). -/
theorem State.tryActivation_allDone {l : Lane} {k k1 : SlotId} {o o1 : Order} (ha : s.activatable l = some (k, o))
    (h1 : (s.activate l k o).active l = some (k1, o1)) (hd : o1.allDone = true) :
    s.tryActivation l = ((s.activate l k o).finishOrder l k1 o1 o1.kind).tryActivation l := by
  have hc : s.postedCount l ≤ 4 := by
    have := List.length_filter_le (s.isPosted l) allSlots
    simpa [State.postedCount, allSlots] using this
  rw [State.tryActivation, State.tryActivation,
    activationRounds_of_postedCount_le (Nat.lt_succ_iff.mp (lt_of_lt_of_le (s.postedCount_finish_activate _ ha) hc)),
    activationRounds]
  simp [ha, h1, hd]

/-- Where an order stays active after its activation, or none can be activated, that is all. -/
theorem State.tryActivation_stays {l : Lane} {k k1 : SlotId} {o o1 : Order} (ha : s.activatable l = some (k, o))
    (h1 : (s.activate l k o).active l = some (k1, o1)) (hd : o1.allDone = false) :
    s.tryActivation l = s.activate l k o := by
  simp [State.tryActivation, activationRounds, ha, h1, hd]

theorem State.tryActivation_none {l : Lane} (ha : s.activatable l = none) : s.tryActivation l = s := by
  simp [State.tryActivation, activationRounds, ha]

end Sys2Proof.Machine
end

