-- ==== Sys2Proof/Laws/Outer.lean ====
section
/-! SUPPORT. The part of State that no operation of the orders and the channels touches: the queue, the links, the
bindings, Fault Control and Cabinet Control. One lemma per operation. -/

namespace Sys2Proof.Machine

/-- The blocks that the operations of chapters 1 to 6 only read. -/
def State.outer (s : State) :
    List Instr × PortTbl PortState × Vector (Option Binding) 24 × BitVec 64 × LaneTbl (Option BindingId) × FaultControl ×
      Cabinet :=
  (s.pending, s.ports, s.bindings, s.family, s.defaults, s.faults, s.cabinet)

theorem State.pending_of_outer {s t : State} (h : t.outer = s.outer) : t.pending = s.pending := congrArg (·.1) h
theorem State.ports_of_outer {s t : State} (h : t.outer = s.outer) : t.ports = s.ports := congrArg (·.2.1) h
theorem State.bindings_of_outer {s t : State} (h : t.outer = s.outer) : t.bindings = s.bindings := congrArg (·.2.2.1) h
theorem State.family_of_outer {s t : State} (h : t.outer = s.outer) : t.family = s.family := congrArg (·.2.2.2.1) h
theorem State.defaults_of_outer {s t : State} (h : t.outer = s.outer) : t.defaults = s.defaults :=
  congrArg (·.2.2.2.2.1) h
theorem State.faults_of_outer {s t : State} (h : t.outer = s.outer) : t.faults = s.faults := congrArg (·.2.2.2.2.2.1) h
theorem State.cabinet_of_outer {s t : State} (h : t.outer = s.outer) : t.cabinet = s.cabinet :=
  congrArg (·.2.2.2.2.2.2) h
theorem State.mode_of_outer {s t : State} (h : t.outer = s.outer) : t.mode = s.mode := by
  simp [State.mode, State.cabinet_of_outer h]

variable (s : State)

/-! ### The setters -/

@[simp] theorem State.setOm_outer (l : Lane) (x : OrderManager) : (s.setOm l x).outer = s.outer := rfl
@[simp] theorem State.setHead_outer (h : HeadId) (x : HeadRec) : (s.setHead h x).outer = s.outer := rfl
@[simp] theorem State.setChan_outer (c : ChannelId) (x : ChannelRec) : (s.setChan c x).outer = s.outer := rfl
@[simp] theorem State.setRing_outer (l : Lane) (x : Ring) : (s.setRing l x).outer = s.outer := rfl
@[simp] theorem State.setUnit_outer (p : Port) (x : EventUnit) : (s.setUnit p x).outer = s.outer := rfl
@[simp] theorem State.setArbiter_outer (x : Arbiter) : (s.setArbiter x).outer = s.outer := rfl
@[simp] theorem State.mapHeads_outer (f : HeadId → HeadRec → HeadRec) : (s.mapHeads f).outer = s.outer := rfl
@[simp] theorem State.mapChans_outer (f : ChannelId → ChannelRec → ChannelRec) : (s.mapChans f).outer = s.outer := rfl
@[simp] theorem State.addRefs_outer (set : List RecipeId) : (s.addRefs set).outer = s.outer := rfl
@[simp] theorem State.dropRefs_outer (set : List RecipeId) : (s.dropRefs set).outer = s.outer := rfl

theorem State.foldl_outer {α : Type} (f : State → α → State) (h : ∀ t a, (f t a).outer = t.outer) (as : List α)
    (t : State) : (as.foldl f t).outer = t.outer := by
  induction as generalizing t with
  | nil => rfl
  | cons a as ih => rw [List.foldl_cons, ih, h]

/-! ### Slots, heads and channels, rings, events -/

@[simp] theorem State.setSlot_outer (l : Lane) (k : SlotId) (o : Option Order) : (s.setSlot l k o).outer = s.outer := rfl
@[simp] theorem State.modOrder_outer (l : Lane) (k : SlotId) (f : Order → Order) :
    (s.modOrder l k f).outer = s.outer := by unfold State.modOrder; split <;> simp
@[simp] theorem State.modJoint_outer (l : Lane) (k : SlotId) (i : Nat) (f : Joint → Joint) :
    (s.modJoint l k i f).outer = s.outer := by simp [State.modJoint]
@[simp] theorem State.mapJoints_outer (l : Lane) (k : SlotId) (f : Joint → Joint) :
    (s.mapJoints l k f).outer = s.outer := by simp [State.mapJoints]
@[simp] theorem State.setParked_outer (c : ChannelId) (h : Option HeadId) : (s.setParked c h).outer = s.outer := by
  unfold State.setParked; cases h <;> (dsimp only; split <;> (try split) <;> simp)
@[simp] theorem State.setStay_outer (c : ChannelId) (h : Option HeadId) : (s.setStay c h).outer = s.outer := rfl
@[simp] theorem State.liftStays_outer (w : HeadId → Bool) : (s.liftStays w).outer = s.outer := rfl
@[simp] theorem State.reserve_outer (l : Lane) (n : Nat) : (s.reserve l n).outer = s.outer := rfl
@[simp] theorem State.unreserve_outer (l : Lane) (n : Nat) : (s.unreserve l n).outer = s.outer := rfl
@[simp] theorem State.reportResults_outer (p : Port) (l : Lane) (b : Bool) : (s.reportResults p l b).outer = s.outer := rfl
@[simp] theorem State.appendRecord_outer (l : Lane) (r : Record) : (s.appendRecord l r).outer = s.outer := by
  unfold State.appendRecord; split <;> simp
@[simp] theorem State.writeRecord_outer (l : Lane) (r : Record) : (s.writeRecord l r).outer = s.outer := by
  simp [State.writeRecord]
@[simp] theorem State.post_outer (p : Port) (k : PostedKind) (c : Context) : (s.post p k c).outer = s.outer := rfl
@[simp] theorem State.reportHalted_outer (l : Lane) (b : Bool) : (s.reportHalted l b).outer = s.outer := rfl
@[simp] theorem State.reportPost_outer (l : Lane) : (s.reportPost l).outer = s.outer := rfl

/-! ### The arbiter -/

@[simp] theorem State.nameCandidate_outer : s.nameCandidate.outer = s.outer := by
  unfold State.nameCandidate; split <;> (try split) <;> simp
@[simp] theorem State.dropCandidate_outer : s.dropCandidate.outer = s.outer := by
  unfold State.dropCandidate; split <;> (try split) <;> simp
@[simp] theorem State.dropCandidateIf_outer (w : HeadId → Bool) : (s.dropCandidateIf w).outer = s.outer := by
  unfold State.dropCandidateIf; split <;> simp

/-! ### Orders -/

@[simp] theorem State.frontArrival_outer (l : Lane) (h : HeadId) : (s.frontArrival l h).outer = s.outer := by
  unfold State.frontArrival; (repeat' split) <;> simp
@[simp] theorem State.nearDoneTest_outer (l : Lane) : (s.nearDoneTest l).outer = s.outer := by
  unfold State.nearDoneTest; (repeat' split) <;> simp
@[simp] theorem State.freeSlot_outer (l : Lane) (k : SlotId) (o : Order) : (s.freeSlot l k o).outer = s.outer := by
  simp [State.freeSlot]
@[simp] theorem State.finishOrder_outer (l : Lane) (k : SlotId) (o : Order) (kind : CompletionKind) :
    (s.finishOrder l k o kind).outer = s.outer := by simp [State.finishOrder]
@[simp] theorem State.activate_outer (l : Lane) (k : SlotId) (o : Order) : (s.activate l k o).outer = s.outer := by
  simp only [State.activate, State.nearDoneTest_outer]
  rw [State.foldl_outer _ (fun t a => by simp)]
  simp
@[simp] theorem activationRounds_outer (n : Nat) (l : Lane) : (activationRounds n l s).outer = s.outer := by
  induction n generalizing s with
  | zero => rfl
  | succ n ih => unfold activationRounds; dsimp only; (repeat' split) <;> simp [ih]
@[simp] theorem State.tryActivation_outer (l : Lane) : (s.tryActivation l).outer = s.outer := by
  simp [State.tryActivation]
@[simp] theorem State.completionCheck_outer (l : Lane) : (s.completionCheck l).outer = s.outer := by
  unfold State.completionCheck; (repeat' split) <;> simp
@[simp] theorem State.leaveHalted_outer (l : Lane) (k : SlotId) : (s.leaveHalted l k).outer = s.outer := by
  unfold State.leaveHalted; (repeat' split) <;> simp
@[simp] theorem State.clearHalted_outer (l : Lane) (k : SlotId) : (s.clearHalted l k).outer = s.outer := by
  simp [State.clearHalted]
@[simp] theorem State.skipHead_outer (l : Lane) (h : HeadId) : (s.skipHead l h).outer = s.outer := by
  unfold State.skipHead; (repeat' split) <;> simp
@[simp] theorem State.abandonMove_outer (h : HeadId) : (s.abandonMove h).outer = s.outer := by
  unfold State.abandonMove; split <;> simp
@[simp] theorem State.setHealth_outer (h : HeadId) (f : HealthFlag) : (s.setHealth h f).outer = s.outer := by
  unfold State.setHealth; dsimp only; (repeat' split) <;> simp
@[simp] theorem State.setCoolUntil_outer (l : Lane) (k : SlotId) (h : HeadId) (d : Nat) :
    (s.setCoolUntil l k h d).outer = s.outer := by unfold State.setCoolUntil; (repeat' split) <;> simp
@[simp] theorem State.joinHalted_outer (l : Lane) (k : SlotId) (i : Nat) : (s.joinHalted l k i).outer = s.outer := by
  unfold State.joinHalted; dsimp only; split <;> simp
@[simp] theorem State.takeResult_outer (a : Attempt) (r : AttemptResult) : (s.takeResult a r).outer = s.outer := by
  unfold State.takeResult; dsimp only; (repeat' split) <;> simp
@[simp] theorem State.interruptLane_outer (l : Lane) : (s.interruptLane l).outer = s.outer := by
  unfold State.interruptLane; dsimp only; split <;> simp

/-! ### Channels -/

@[simp] theorem State.startSegment_outer (c : ChannelId) (n : Nat) : (s.startSegment c n).outer = s.outer := by
  unfold State.startSegment; (repeat' split) <;> simp
@[simp] theorem State.enterHeating_outer (c : ChannelId) : (s.enterHeating c).outer = s.outer := by
  unfold State.enterHeating; split <;> simp
theorem State.draws_outer (n : Nat) : ({ s with draws := n } : State).outer = s.outer := rfl
@[simp] theorem State.recordSegment_outer (c : ChannelId) (r : EndReason) : (s.recordSegment c r).outer = s.outer := by
  unfold State.recordSegment; split
  · rfl
  · exact State.draws_outer _ _
@[simp] theorem State.recordAttempt_outer (c : ChannelId) (a : Attempt) (r : AttemptResult) :
    (s.recordAttempt c a r).outer = s.outer := by unfold State.recordAttempt; (repeat' split) <;> simp
@[simp] theorem State.release_outer (a : Attempt) : (s.release a).outer = s.outer := rfl
@[simp] theorem State.faultChannel_outer (c : ChannelId) : (s.faultChannel c).outer = s.outer := by
  simp [State.faultChannel]
@[simp] theorem State.closeAttempt_outer (c : ChannelId) (r : AttemptResult) (d : ChannelEnd) :
    (s.closeAttempt c r d).outer = s.outer := by
  unfold State.closeAttempt; split
  · rfl
  · cases d <;> simp
@[simp] theorem State.judgeStay_outer (c : ChannelId) (a : Attempt) : (s.judgeStay c a).outer = s.outer := by
  unfold State.judgeStay; split <;> simp
@[simp] theorem State.skipIfFlagged_outer (a : Attempt) : (s.skipIfFlagged a).outer = s.outer := by
  unfold State.skipIfFlagged; split <;> simp
@[simp] theorem State.endAttempt_outer (c : ChannelId) (r : AttemptResult) (d : ChannelEnd) :
    (s.endAttempt c r d).outer = s.outer := by
  unfold State.endAttempt; dsimp only; (repeat' split) <;> simp
@[simp] theorem State.cutAttempt_outer (c : ChannelId) (r : AttemptResult) (d : ChannelEnd) :
    (s.cutAttempt c r d).outer = s.outer := by simp [State.cutAttempt]
@[simp] theorem State.segmentEnd_outer (c : ChannelId) (r : EndReason) : (s.segmentEnd c r).outer = s.outer := by
  unfold State.segmentEnd; dsimp only; (repeat' split) <;> simp
@[simp] theorem State.countGrant_outer : s.countGrant.outer = s.outer := rfl
@[simp] theorem State.grant_outer (p : GrantPlan) : (s.grant p).outer = s.outer := by
  unfold State.grant; dsimp only; split <;> simp
@[simp] theorem arbitrateRounds_outer (n : Nat) : (arbitrateRounds n s).outer = s.outer := by
  induction n generalizing s with
  | zero => rfl
  | succ n ih => unfold arbitrateRounds; dsimp only; split <;> simp [ih]
@[simp] theorem State.arbitrate_outer : s.arbitrate.outer = s.outer := by simp [State.arbitrate]

end Sys2Proof.Machine
end

