-- ==== Sys2Proof/Laws/Plant.lean ====
section
/-! SUPPORT. The part of State that no operation of the Order Managers touches: the channels, the draws, and the arbiter
less its candidate and its stay reservations. One lemma per operation. -/

namespace Sys2Proof.Machine

/-- The channels with the arbiter's budget, committed power, pointers and low turn. -/
def State.plant (s : State) : Vector ChannelRec 6 × Nat × Nat × Nat × HeadId × HeadId × Bool :=
  (s.channels, s.draws, s.arbiter.budget, s.arbiter.committed, s.arbiter.highPtr, s.arbiter.lowPtr, s.arbiter.lowTurn)

theorem State.channels_of_plant {s t : State} (h : t.plant = s.plant) : t.channels = s.channels := congrArg (·.1) h
theorem State.draws_of_plant {s t : State} (h : t.plant = s.plant) : t.draws = s.draws := congrArg (·.2.1) h
theorem State.budget_of_plant {s t : State} (h : t.plant = s.plant) : t.arbiter.budget = s.arbiter.budget :=
  congrArg (·.2.2.1) h
theorem State.committed_of_plant {s t : State} (h : t.plant = s.plant) : t.arbiter.committed = s.arbiter.committed :=
  congrArg (·.2.2.2.1) h
theorem State.highPtr_of_plant {s t : State} (h : t.plant = s.plant) : t.arbiter.highPtr = s.arbiter.highPtr :=
  congrArg (·.2.2.2.2.1) h
theorem State.lowPtr_of_plant {s t : State} (h : t.plant = s.plant) : t.arbiter.lowPtr = s.arbiter.lowPtr :=
  congrArg (·.2.2.2.2.2.1) h
theorem State.lowTurn_of_plant {s t : State} (h : t.plant = s.plant) : t.arbiter.lowTurn = s.arbiter.lowTurn :=
  congrArg (·.2.2.2.2.2.2) h
theorem State.chan_of_plant {s t : State} (h : t.plant = s.plant) (c : ChannelId) : t.chan c = s.chan c :=
  State.chan_congr (State.channels_of_plant h) c

variable (s : State)

/-! ### The setters -/

@[simp] theorem State.setPort_plant (p : Port) (x : PortState) : (s.setPort p x).plant = s.plant := rfl
@[simp] theorem State.setOm_plant (l : Lane) (x : OrderManager) : (s.setOm l x).plant = s.plant := rfl
@[simp] theorem State.setHead_plant (h : HeadId) (x : HeadRec) : (s.setHead h x).plant = s.plant := rfl
@[simp] theorem State.setRing_plant (l : Lane) (x : Ring) : (s.setRing l x).plant = s.plant := rfl
@[simp] theorem State.setUnit_plant (p : Port) (x : EventUnit) : (s.setUnit p x).plant = s.plant := rfl
@[simp] theorem State.setFaults_plant (x : FaultControl) : (s.setFaults x).plant = s.plant := rfl
@[simp] theorem State.setCabinet_plant (x : Cabinet) : (s.setCabinet x).plant = s.plant := rfl
@[simp] theorem State.mapHeads_plant (f : HeadId → HeadRec → HeadRec) : (s.mapHeads f).plant = s.plant := rfl
@[simp] theorem State.addRefs_plant (set : List RecipeId) : (s.addRefs set).plant = s.plant := rfl
@[simp] theorem State.dropRefs_plant (set : List RecipeId) : (s.dropRefs set).plant = s.plant := rfl

theorem State.foldl_plant {α : Type} (f : State → α → State) (h : ∀ t a, (f t a).plant = t.plant) (as : List α)
    (t : State) : (as.foldl f t).plant = t.plant := by
  induction as generalizing t with
  | nil => rfl
  | cons a as ih => rw [List.foldl_cons, ih, h]

/-! ### Slots, rings, events, candidate and stays -/

@[simp] theorem State.setSlot_plant (l : Lane) (k : SlotId) (o : Option Order) : (s.setSlot l k o).plant = s.plant := rfl
@[simp] theorem State.modOrder_plant (l : Lane) (k : SlotId) (f : Order → Order) :
    (s.modOrder l k f).plant = s.plant := by unfold State.modOrder; split <;> simp
@[simp] theorem State.modJoint_plant (l : Lane) (k : SlotId) (i : Nat) (f : Joint → Joint) :
    (s.modJoint l k i f).plant = s.plant := by simp [State.modJoint]
@[simp] theorem State.mapJoints_plant (l : Lane) (k : SlotId) (f : Joint → Joint) :
    (s.mapJoints l k f).plant = s.plant := by simp [State.mapJoints]
@[simp] theorem State.setStay_plant (c : ChannelId) (h : Option HeadId) : (s.setStay c h).plant = s.plant := rfl
@[simp] theorem State.liftStays_plant (w : HeadId → Bool) : (s.liftStays w).plant = s.plant := rfl
@[simp] theorem State.reserve_plant (l : Lane) (n : Nat) : (s.reserve l n).plant = s.plant := rfl
@[simp] theorem State.unreserve_plant (l : Lane) (n : Nat) : (s.unreserve l n).plant = s.plant := rfl
@[simp] theorem State.reportResults_plant (p : Port) (l : Lane) (b : Bool) : (s.reportResults p l b).plant = s.plant := rfl
@[simp] theorem State.appendRecord_plant (l : Lane) (r : Record) : (s.appendRecord l r).plant = s.plant := by
  unfold State.appendRecord; split <;> simp
@[simp] theorem State.writeRecord_plant (l : Lane) (r : Record) : (s.writeRecord l r).plant = s.plant := by
  simp [State.writeRecord]
@[simp] theorem State.post_plant (p : Port) (k : PostedKind) (c : Context) : (s.post p k c).plant = s.plant := rfl
@[simp] theorem State.reportHalted_plant (l : Lane) (b : Bool) : (s.reportHalted l b).plant = s.plant := rfl
@[simp] theorem State.reportPost_plant (l : Lane) : (s.reportPost l).plant = s.plant := rfl
@[simp] theorem State.dropCandidate_plant : s.dropCandidate.plant = s.plant := by
  unfold State.dropCandidate; split
  · split <;> rfl
  · rfl
@[simp] theorem State.dropCandidateIf_plant (w : HeadId → Bool) : (s.dropCandidateIf w).plant = s.plant := by
  unfold State.dropCandidateIf; split <;> rfl

/-! ### Orders -/

@[simp] theorem State.frontArrival_plant (l : Lane) (h : HeadId) : (s.frontArrival l h).plant = s.plant := by
  unfold State.frontArrival; (repeat' split) <;> simp
@[simp] theorem State.nearDoneTest_plant (l : Lane) : (s.nearDoneTest l).plant = s.plant := by
  unfold State.nearDoneTest; (repeat' split) <;> simp
@[simp] theorem State.freeSlot_plant (l : Lane) (k : SlotId) (o : Order) : (s.freeSlot l k o).plant = s.plant := by
  simp [State.freeSlot]
@[simp] theorem State.finishOrder_plant (l : Lane) (k : SlotId) (o : Order) (kind : CompletionKind) :
    (s.finishOrder l k o kind).plant = s.plant := by simp [State.finishOrder]
@[simp] theorem State.activate_plant (l : Lane) (k : SlotId) (o : Order) : (s.activate l k o).plant = s.plant := by
  simp only [State.activate, State.nearDoneTest_plant]
  rw [State.foldl_plant _ (fun t a => by simp)]
  simp
@[simp] theorem activationRounds_plant (n : Nat) (l : Lane) : (activationRounds n l s).plant = s.plant := by
  induction n generalizing s with
  | zero => rfl
  | succ n ih => unfold activationRounds; dsimp only; (repeat' split) <;> simp [ih]
@[simp] theorem State.tryActivation_plant (l : Lane) : (s.tryActivation l).plant = s.plant := by
  simp [State.tryActivation]
@[simp] theorem State.completionCheck_plant (l : Lane) : (s.completionCheck l).plant = s.plant := by
  unfold State.completionCheck; (repeat' split) <;> simp
@[simp] theorem State.leaveHalted_plant (l : Lane) (k : SlotId) : (s.leaveHalted l k).plant = s.plant := by
  unfold State.leaveHalted; (repeat' split) <;> simp
@[simp] theorem State.clearHalted_plant (l : Lane) (k : SlotId) : (s.clearHalted l k).plant = s.plant := by
  simp [State.clearHalted]
@[simp] theorem State.skipHead_plant (l : Lane) (h : HeadId) : (s.skipHead l h).plant = s.plant := by
  unfold State.skipHead; (repeat' split) <;> simp
@[simp] theorem State.setCoolUntil_plant (l : Lane) (k : SlotId) (h : HeadId) (d : Nat) :
    (s.setCoolUntil l k h d).plant = s.plant := by unfold State.setCoolUntil; (repeat' split) <;> simp
@[simp] theorem State.joinHalted_plant (l : Lane) (k : SlotId) (i : Nat) : (s.joinHalted l k i).plant = s.plant := by
  unfold State.joinHalted; dsimp only; split <;> simp
@[simp] theorem State.takeResult_plant (a : Attempt) (r : AttemptResult) : (s.takeResult a r).plant = s.plant := by
  unfold State.takeResult; dsimp only; (repeat' split) <;> simp
@[simp] theorem State.interruptLane_plant (l : Lane) : (s.interruptLane l).plant = s.plant := by
  unfold State.interruptLane; dsimp only; split <;> simp
@[simp] theorem State.recordAttempt_plant (c : ChannelId) (a : Attempt) (r : AttemptResult) :
    (s.recordAttempt c a r).plant = s.plant := by unfold State.recordAttempt; (repeat' split) <;> simp
@[simp] theorem State.judgeStay_plant (c : ChannelId) (a : Attempt) : (s.judgeStay c a).plant = s.plant := by
  unfold State.judgeStay; split <;> simp
@[simp] theorem State.skipIfFlagged_plant (a : Attempt) : (s.skipIfFlagged a).plant = s.plant := by
  unfold State.skipIfFlagged; split <;> simp

end Sys2Proof.Machine
end

