-- ==== Sys2Proof/Laws/Channels.lean ====
section
/-! SUPPORT. What the operations of the channels leave in each channel record, and what a grant plan says. -/

namespace Sys2Proof.Machine

/-! ### Parking, faulting, segments, attempt ends -/

theorem State.chan_setParked (s : State) (c d : ChannelId) (h : Option HeadId) :
    (s.setParked c h).chan d = if d = c then { s.chan c with parked := h } else s.chan d := by
  have hs : ∀ (i : HeadId) (x : HeadRec) (u : State) (e : ChannelId), (u.setHead i x).chan e = u.chan e :=
    fun _ _ _ _ => rfl
  unfold State.setParked State.modChan State.modHead
  by_cases hd : d = c <;> cases h <;> (dsimp only; split <;> (try split) <;> simp_all)

theorem State.arbiter_setParked (s : State) (c : ChannelId) (h : Option HeadId) :
    (s.setParked c h).arbiter = s.arbiter := by
  unfold State.setParked State.modChan State.modHead
  cases h <;> (dsimp only; split <;> (try split) <;> rfl)

theorem State.chan_faultChannel (s : State) (c d : ChannelId) :
    (s.faultChannel c).chan d = if d = c then { (s.chan c).clear with state := .faulted, parked := none } else s.chan d := by
  show (((s.modChan c _).setParked c none).setStay c none).chan d = _
  rw [show ∀ (u : State) (e : ChannelId) (h : Option HeadId), (u.setStay e h).chan d = u.chan d from fun _ _ _ => rfl]
  rw [State.chan_setParked]
  by_cases hd : d = c
  · subst hd; simp
  · simp [hd]

theorem State.committed_faultChannel (s : State) (c : ChannelId) :
    (s.faultChannel c).arbiter.committed = s.arbiter.committed := by
  show (((s.modChan c _).setParked c none).setStay c none).arbiter.committed = _
  rw [show ∀ (u : State) (e : ChannelId) (h : Option HeadId), (u.setStay e h).arbiter.committed = u.arbiter.committed
    from fun _ _ _ => rfl, State.arbiter_setParked]
  rfl

theorem State.chan_recordSegment (s : State) (c d : ChannelId) (r : EndReason) :
    (s.recordSegment c r).chan d = { s.chan d with heat := ((s.recordSegment c r).chan d).heat } := by
  unfold State.recordSegment
  split
  · rfl
  · simp only [State.chan, State.modChan, State.setChan, Vector.get_set_fin]
    by_cases hd : d = c
    · subst hd; simp
    · simp [hd]

theorem State.chan_recordSegment_other (s : State) (c d : ChannelId) (r : EndReason) (h : d ≠ c) :
    (s.recordSegment c r).chan d = s.chan d := by
  unfold State.recordSegment
  split
  · rfl
  · simp only [State.chan, State.modChan, State.setChan, Vector.get_set_fin, if_neg h]

/-- Where an attempt end leaves the channels. -/
theorem State.chan_closeAttempt (s : State) (c d : ChannelId) (r : AttemptResult) (a : Attempt)
    (ha : (s.chan c).attempt = some a) :
    (s.closeAttempt c r .idle).chan d = if d = c then (s.chan c).clear else s.chan d := by
  unfold State.closeAttempt
  rw [ha]
  dsimp only
  have hp := State.recordAttempt_plant s c a r
  have h : ∀ e, ((s.recordAttempt c a r).release a).chan e = s.chan e := fun e => by
    show (s.recordAttempt c a r).chan e = _; exact State.chan_of_plant hp e
  rw [State.modChan_eq, State.chan_setChan, h, h]

/-- What an interrupted attempt leaves of a channel record. -/
def ChannelRec.interrupted (r : ChannelRec) : ChannelRec := if r.attempt.isSome then r.clear else r

theorem State.chan_interruptAttempt (s : State) (c d : ChannelId)
    (h : (s.chan c).state = .heating → (s.chan c).attempt.isSome) :
    (s.interruptAttempt c).chan d = if d = c then (s.chan c).interrupted else s.chan d := by
  have hnone : ∀ (t : State) (r : AttemptResult), (t.chan c).attempt = none → t.closeAttempt c r .idle = t := by
    intro t r ht; unfold State.closeAttempt; rw [ht]
  unfold State.interruptAttempt ChannelRec.interrupted
  dsimp only
  split
  · rename_i hh
    obtain ⟨a, ha⟩ := Option.isSome_iff_exists.mp (h hh)
    have ha2 : ((s.recordSegment c .cut).chan c).attempt = some a := by rw [State.chan_recordSegment]; exact ha
    rw [State.chan_closeAttempt _ _ _ _ a ha2]
    by_cases hd : d = c
    · subst hd; simp only [if_true, ha, Option.isSome_some]
      rw [State.chan_recordSegment]; rfl
    · simp only [if_neg hd]; exact State.chan_recordSegment_other _ _ _ _ hd
  · cases ha : (s.chan c).attempt with
    | none =>
      rw [hnone _ _ ha]
      by_cases hd : d = c
      · subst hd; simp
      · simp [hd]
    | some a => rw [State.chan_closeAttempt _ _ _ _ a ha]; simp

/-- What a quench leaves of a channel record (R81). -/
def ChannelRec.stop (r : ChannelRec) : ChannelRec :=
  if r.state = .offline then r.interrupted
  else { r.clear with state := .stopped, parked := none, faultHeld := r.state == .faulted }

/-- What a CABINET_RESET leaves of a channel record (R81). -/
def ChannelRec.reset81 (r : ChannelRec) : ChannelRec :=
  match r.state with
  | .offline => r.interrupted
  | .faulted => r.interrupted
  | .stopped =>
    { r.interrupted with state := if r.faultHeld then .faulted else .idle, faultHeld := false, parked := none }
  | .idle => { r.clear with parked := none }
  | .transfer => { r.clear with parked := none }
  | .heating => { r.clear with parked := none }

theorem ChannelRec.interrupted_attempt (r : ChannelRec) : r.interrupted.attempt = none := by
  unfold ChannelRec.interrupted
  split
  · rfl
  · rename_i h; simpa using h

theorem ChannelRec.stop_attempt (r : ChannelRec) : r.stop.attempt = none := by
  unfold ChannelRec.stop
  split
  · exact r.interrupted_attempt
  · rfl

theorem ChannelRec.reset81_attempt (r : ChannelRec) : r.reset81.attempt = none := by
  unfold ChannelRec.reset81
  split <;> first
    | exact r.interrupted_attempt
    | rfl

/-- A loop over channels whose step acts on its own channel alone. -/
theorem State.chan_foldl (f : State → ChannelId → State) (g : ChannelRec → ChannelRec)
    (h : ∀ t c d, (f t c).chan d = if d = c then g (t.chan c) else t.chan d) (cs : List ChannelId) (hn : cs.Nodup)
    (s : State) (d : ChannelId) : (cs.foldl f s).chan d = if d ∈ cs then g (s.chan d) else s.chan d := by
  induction cs generalizing s with
  | nil => simp
  | cons c cs ih =>
    rw [List.foldl_cons, ih (List.nodup_cons.mp hn).2, h]
    by_cases hd : d = c
    · subst hd; simp [(List.nodup_cons.mp hn).1]
    · simp [hd]

theorem State.interruptAttempt_other (s : State) (c d : ChannelId) (h : d ≠ c) :
    (s.interruptAttempt c).chan d = s.chan d := by
  have h1 : ∀ t : State, (t.closeAttempt c .interrupted .idle).chan d = t.chan d := by
    intro t
    cases ha : (t.chan c).attempt with
    | none => unfold State.closeAttempt; rw [ha]
    | some a => rw [State.chan_closeAttempt _ _ _ _ a ha, if_neg h]
  unfold State.interruptAttempt
  dsimp only
  split
  · rw [h1, State.chan_recordSegment_other _ _ _ _ h]
  · exact h1 s

/-- An interrupted attempt changes no more of its own channel than the clearing does. -/
theorem State.interruptAttempt_clear (s : State) (c : ChannelId) :
    ((s.interruptAttempt c).chan c).clear = (s.chan c).clear ∧
      ((s.interruptAttempt c).chan c).faultHeld = (s.chan c).faultHeld := by
  have h1 : ∀ t : State, ((t.closeAttempt c .interrupted .idle).chan c).clear = (t.chan c).clear ∧
      ((t.closeAttempt c .interrupted .idle).chan c).faultHeld = (t.chan c).faultHeld := by
    intro t
    cases ha : (t.chan c).attempt with
    | none => unfold State.closeAttempt; rw [ha]; exact ⟨rfl, rfl⟩
    | some a => rw [State.chan_closeAttempt _ _ _ _ a ha, if_pos rfl]; exact ⟨rfl, rfl⟩
  unfold State.interruptAttempt
  dsimp only
  split
  · rw [(h1 _).1, (h1 _).2, State.chan_recordSegment]; exact ⟨rfl, rfl⟩
  · exact h1 s

theorem State.chan_stopChannel (s : State) (c d : ChannelId) :
    (s.stopChannel c).chan d = if d = c then (s.chan c).stop else s.chan d := by
  unfold State.stopChannel
  dsimp only
  split
  · rename_i h
    rw [State.chan_interruptAttempt _ _ _ (fun h2 => by rw [h] at h2; cases h2)]
    unfold ChannelRec.stop; rw [if_pos h]
  · rename_i h
    rw [State.chan_setParked, State.modChan_eq, State.chan_setChan, State.chan_setChan]
    by_cases hd : d = c
    · subst hd
      simp only [if_true, ChannelRec.stop, if_neg h, (State.interruptAttempt_clear s d).1]
    · simp only [if_neg hd]; exact State.interruptAttempt_other s c d hd

theorem State.chan_stopChannels (s : State) (d : ChannelId) :
    (allChannels.foldl State.stopChannel s).chan d = (s.chan d).stop := by
  rw [State.chan_foldl State.stopChannel ChannelRec.stop State.chan_stopChannel allChannels (List.nodup_finRange 6)]
  simp [allChannels]

theorem State.chan_resetChannel (s : State) (c d : ChannelId) :
    (s.resetChannel c).chan d = if d = c then (s.chan c).reset81 else s.chan d := by
  have hs : (s.chan c).state ≠ .heating →
      (s.interruptAttempt c).chan d = if d = c then (s.chan c).interrupted else s.chan d :=
    fun h => State.chan_interruptAttempt s c d (fun h2 => absurd h2 h)
  have hc : (((s.interruptAttempt c).modChan c ChannelRec.clear).setParked c none).chan d =
      if d = c then { (s.chan c).clear with parked := none } else s.chan d := by
    rw [State.chan_setParked, State.modChan_eq, State.chan_setChan, State.chan_setChan]
    by_cases hd : d = c
    · subst hd; simp only [if_true, (State.interruptAttempt_clear s d).1]
    · simp only [if_neg hd]; exact State.interruptAttempt_other s c d hd
  unfold State.resetChannel ChannelRec.reset81
  dsimp only
  cases h : (s.chan c).state <;> dsimp only
  · exact hs (by rw [h]; decide)
  · exact hc
  · exact hc
  · exact hc
  · exact hs (by rw [h]; decide)
  · have hi := State.chan_interruptAttempt s c c (fun h2 => by rw [h] at h2; cases h2)
    rw [State.chan_setParked, State.modChan_eq, State.chan_setChan, State.chan_setChan]
    by_cases hd : d = c
    · subst hd; simp only [if_true, hi]
    · simp only [if_neg hd]; exact State.interruptAttempt_other s c d hd

theorem State.chan_resetChannels (s : State) (d : ChannelId) : s.resetChannels.chan d = (s.chan d).reset81 := by
  unfold State.resetChannels
  rw [State.modArbiter_eq, State.chan_setArbiter,
    State.chan_foldl State.resetChannel ChannelRec.reset81 State.chan_resetChannel allChannels (List.nodup_finRange 6)]
  simp [allChannels]

/-! ### The whole stop -/

theorem State.stopWork_plant (s : State) :
    s.stopWork.plant = ((allChannels.foldl State.stopChannel s).modArbiter Arbiter.empty).plant := by
  unfold State.stopWork
  generalize allChannels.foldl State.stopChannel s = u
  exact (State.interruptLane_plant _ .b).trans (State.interruptLane_plant _ .a)

theorem State.chan_stopWork (s : State) (d : ChannelId) : s.stopWork.chan d = (s.chan d).stop := by
  rw [State.chan_of_plant s.stopWork_plant, State.modArbiter_eq, State.chan_setArbiter, State.chan_stopChannels]

theorem State.stopWork_attempt (s : State) (d : ChannelId) : (s.stopWork.chan d).attempt = none := by
  rw [State.chan_stopWork]; exact ChannelRec.stop_attempt _

theorem State.stopWork_committed (s : State) : s.stopWork.arbiter.committed = 0 := by
  rw [State.committed_of_plant s.stopWork_plant, State.modArbiter_eq, State.setArbiter_arbiter]; rfl

theorem State.quench_plant (s : State) (e : FaultEntry) : (s.quench e).plant = ((s.fillLogs e true).stopWork).plant := by
  unfold State.quench
  generalize (s.fillLogs e true).stopWork = u
  rfl

/-! ### The grant -/

/-- A grant's channel is one that was grantable to the head. -/
theorem State.chooseChannel_grantable (s : State) (h : HeadId) (c : ChannelId) (hc : s.chooseChannel h = some c) :
    s.grantable c h = true := by
  have hm : ∀ d, d ∈ allChannels.filter (fun c => s.grantable c h) → s.grantable d h = true :=
    fun d hd => (List.mem_filter.mp hd).2
  unfold State.chooseChannel at hc
  dsimp only at hc
  split at hc
  · rename_i d hd
    cases hc; exact hm _ (List.mem_of_find?_eq_some hd)
  · split at hc
    · rename_i d hd
      cases hc; exact hm _ (List.mem_of_find?_eq_some hd)
    · exact hm _ (List.mem_of_mem_head? hc)

/-- What a grant plan says. -/
theorem State.grantPlan_spec (s : State) (p : GrantPlan) (hp : s.grantPlan = some p) :
    s.arbiter.candidate = some p.head ∧ s.requesting p.head = true ∧ s.chooseChannel p.head = some p.channel ∧
      (∃ o, s.frontOf p.head = some (p.lane, p.slot, o, p.index, p.joint)) ∧
      s.arbiter.committed + (s.recipe p.joint.recipe).peak ≤ s.arbiter.budget * 10 := by
  unfold State.grantPlan at hp
  (repeat' split at hp) <;> simp_all
  subst hp
  simp_all

theorem State.working_of_requesting (s : State) (h : HeadId) (hr : s.requesting h = true) : s.working = true := by
  unfold State.requesting at hr
  split at hr
  · cases hr
  · simp_all


end Sys2Proof.Machine
end

