-- ==== Sys2Proof/Laws/Arbitration.lean ====
section
/-! SUPPORT. The arbiter's part of an event: its rounds come to rest, one step at a time (R62 to R68). -/

namespace Sys2Proof.Machine

variable (s : State)

/-! ### A grant takes an IDLE channel -/

/-- How many channels are IDLE. -/
def State.idleCount : Nat := (allChannels.filter fun c => (s.chan c).state == .idle).length

theorem State.idle_startSegment {c d : ChannelId} {n : Nat} :
    (((s.startSegment c n).chan d).state = .idle) ↔ (s.chan d).state = .idle := by
  unfold State.startSegment
  repeat' split
  all_goals try exact Iff.rfl
  simp only [State.modChan, State.chan_setChan]
  split
  · rename_i h; subst h; exact Iff.rfl
  · exact Iff.rfl

theorem State.chan_modHead (h : HeadId) (f : HeadRec → HeadRec) (d : ChannelId) : (s.modHead h f).chan d = s.chan d := rfl

theorem State.chan_modJoint (l : Lane) (k : SlotId) (i : Nat) (f : Joint → Joint) (d : ChannelId) :
    (s.modJoint l k i f).chan d = s.chan d := State.chan_congr (State.channels_of_plant (State.modJoint_plant ..)) d

theorem State.chan_modOrder (l : Lane) (k : SlotId) (f : Order → Order) (d : ChannelId) :
    (s.modOrder l k f).chan d = s.chan d := State.chan_congr (State.channels_of_plant (State.modOrder_plant ..)) d

theorem State.idle_enterHeating {c d : ChannelId} (h : ((s.enterHeating c).chan d).state = .idle) :
    (s.chan d).state = .idle := by
  unfold State.enterHeating at h
  split at h
  · exact h
  · rw [State.idle_startSegment, State.chan_modHead, State.chan_modJoint] at h
    simp only [State.modChan, State.chan_setChan] at h
    split at h
    · cases h
    · exact h

/-- A channel that is IDLE after a grant is another one than the grant's, and was IDLE before. -/
theorem State.idle_grant {p : GrantPlan} {d : ChannelId} (h : ((s.grant p).chan d).state = .idle) :
    d ≠ p.channel ∧ (s.chan d).state = .idle := by
  unfold State.grant at h
  dsimp only at h
  rw [show ∀ (u : State) (f : Arbiter → Arbiter), ((u.modArbiter f).countGrant).chan d = u.chan d from fun _ _ => rfl] at h
  have key : ∀ u : State, (∀ e, u.chan e = s.chan e) →
      ((((u.modChan p.channel fun r =>
        { r with state := .transfer, attempt := some (s.newAttempt p), moveTimer := some s.transferTime }).setParked
          p.channel (some p.head)).setStay p.channel none).chan d).state = .idle →
      d ≠ p.channel ∧ (s.chan d).state = .idle := by
    intro u hu h
    rw [show ∀ (v : State), (v.setStay p.channel none).chan d = v.chan d from fun _ => rfl, State.chan_setParked] at h
    split at h
    · rename_i e; simp [State.modChan] at h
    · rename_i e; simp only [State.modChan, State.chan_setChan, if_neg e, hu] at h; exact ⟨e, h⟩
  have hu : ∀ e, (((((s.reserve p.lane (s.recipe p.joint.recipe).recordSize).modArbiter fun x =>
      { x with committed := x.committed + (s.newAttempt p).peak }).modJoint p.lane p.slot p.index fun j =>
      { j with attempts := j.attempts + 1, state := .transfer }).modOrder p.lane p.slot fun o =>
      { o with proof := o.proof || (s.newAttempt p).proof })).chan e = s.chan e := fun e => by
    rw [State.chan_modOrder, State.chan_modJoint]; rfl
  split at h
  · exact key _ hu (State.idle_enterHeating _ h)
  · exact key _ hu h

/-- A grant leaves one IDLE channel less. -/
theorem State.idleCount_grant {p : GrantPlan} (hp : s.grantPlan = some p) : (s.grant p).idleCount < s.idleCount := by
  have hc : (s.chan p.channel).state = .idle := by
    obtain ⟨-, -, h, -, -⟩ := s.grantPlan_spec p hp
    have := s.chooseChannel_grantable _ _ h
    simp only [State.grantable, Bool.and_eq_true, beq_iff_eq] at this; exact this.1
  have hsub : (allChannels.filter fun c => ((s.grant p).chan c).state == .idle).Sublist
      ((allChannels.filter fun c => (s.chan c).state == .idle).filter (· != p.channel)) := by
    rw [List.filter_filter]
    refine List.monotone_filter_right _ fun d hd => ?_
    have := s.idle_grant (by simpa using hd : ((s.grant p).chan d).state = .idle)
    simp [this.1, this.2]
  have hm : p.channel ∈ allChannels.filter fun c => (s.chan c).state == .idle := by simp [allChannels, hc]
  exact lt_of_le_of_lt hsub.length_le (List.length_filter_lt_length_iff_exists.mpr ⟨p.channel, hm, by simp⟩)

/-! ### The rounds come to rest -/

/-- The judging of a round changes the arbiter alone. -/
theorem State.idleCount_judged : s.dropCandidate.nameCandidate.idleCount = s.idleCount := by
  have h1 : ∀ t : State, t.nameCandidate.idleCount = t.idleCount := fun t => by
    unfold State.nameCandidate; repeat' split
    all_goals rfl
  have h2 : s.dropCandidate.idleCount = s.idleCount := by
    unfold State.dropCandidate; repeat' split
    all_goals rfl
  rw [h1, h2]

/-- Rounds beyond the number of IDLE channels, and one more, change nothing. -/
theorem arbitrateRounds_of_idleCount_lt {n : Nat} {s : State} (h : s.idleCount < n) :
    arbitrateRounds (n + 1) s = arbitrateRounds n s := by
  induction n generalizing s with
  | zero => exact absurd h (Nat.not_lt_zero _)
  | succ n ih =>
    rw [arbitrateRounds]; conv => rhs; rw [arbitrateRounds]
    cases hp : s.dropCandidate.nameCandidate.grantPlan with
    | none => rfl
    | some p =>
      dsimp only
      have := State.idleCount_grant _ hp
      rw [State.idleCount_judged] at this
      exact ih (by omega)

/-- The arbiter's part of an event drops or keeps the candidate, names one where there is none, and, where a grant can be
made, makes it and begins again. -/
theorem State.arbitrate_eq : s.arbitrate = match s.dropCandidate.nameCandidate.grantPlan with
    | some p => (s.dropCandidate.nameCandidate.grant p).arbitrate
    | none => s.dropCandidate.nameCandidate := by
  have h6 : s.idleCount ≤ 6 := by
    have := List.length_filter_le (fun c => (s.chan c).state == .idle) allChannels
    simpa [State.idleCount, allChannels] using this
  conv => lhs; rw [State.arbitrate, arbitrateRounds]
  cases hp : s.dropCandidate.nameCandidate.grantPlan with
  | none => rfl
  | some p =>
    dsimp only
    have := State.idleCount_grant _ hp
    rw [State.idleCount_judged] at this
    exact (arbitrateRounds_of_idleCount_lt (by omega)).symm

/-! ### One step at a time -/

/-- A candidate that stops requesting is dropped first (R65). -/
theorem State.arbitrate_drop {h : HeadId} (hc : s.arbiter.candidate = some h) (hr : s.requesting h = false) :
    s.arbitrate = (s.setArbiter { s.arbiter with candidate := none }).arbitrate := by
  have e1 : s.dropCandidate = s.setArbiter { s.arbiter with candidate := none } := by
    simp [State.dropCandidate, hc, hr, State.modArbiter]
  have e2 : (s.setArbiter { s.arbiter with candidate := none }).dropCandidate =
      s.setArbiter { s.arbiter with candidate := none } := by simp [State.dropCandidate]
  rw [State.arbitrate_eq, State.arbitrate_eq (s.setArbiter _), e1, e2]

/-- A candidate that requests is granted where R66 holds, and waits otherwise. -/
theorem State.arbitrate_candidate {h : HeadId} (hc : s.arbiter.candidate = some h) (hr : s.requesting h = true) :
    s.arbitrate = match s.grantPlan with
      | some p => (s.grant p).arbitrate
      | none => s := by
  have e : s.dropCandidate.nameCandidate = s := by simp [State.dropCandidate, State.nameCandidate, hc, hr]
  rw [State.arbitrate_eq, e]

/-- With no served head there is no naming, and nothing happens. -/
theorem State.arbitrate_idle (hc : s.arbiter.candidate = none) (hn : s.naming = none) : s.arbitrate = s := by
  have e : s.dropCandidate.nameCandidate = s := by simp [State.dropCandidate, State.nameCandidate, hc, hn]
  rw [State.arbitrate_eq, e, State.grantPlan, hc]

/-- What a naming finds is a served head. -/
theorem State.naming_served {a : Arbiter} (hn : s.naming = some a) :
    ∃ h, a.candidate = some h ∧ s.served h = true ∧ a.stays = s.arbiter.stays := by
  have hf : ∀ cls ptr h, s.nextOf cls ptr = some h → s.served h = true := fun cls ptr h hh => by
    have := List.find?_some hh
    simp only [Bool.and_eq_true] at this; exact this.1
  unfold State.naming at hn
  dsimp only at hn
  (repeat' split at hn) <;> try cases hn
  · rename_i h hh
    split at hh
    · exact ⟨h, rfl, hf _ _ _ hh, rfl⟩
    · cases hh
  · rename_i h hh; exact ⟨h, rfl, hf _ _ _ hh, rfl⟩
  · rename_i h hh; exact ⟨h, rfl, hf _ _ _ hh, rfl⟩

theorem State.requesting_setArbiter (a : Arbiter) (h : HeadId) : (s.setArbiter a).requesting h = s.requesting h := rfl

/-- Where there is no candidate, the naming comes first. -/
theorem State.arbitrate_naming {a : Arbiter} (hc : s.arbiter.candidate = none) (hn : s.naming = some a) :
    s.arbitrate = (s.setArbiter a).arbitrate := by
  obtain ⟨h, hh, hs, -⟩ := s.naming_served hn
  have hr : (s.setArbiter a).requesting h = true := by
    simp only [State.served, Bool.and_eq_true] at hs; rw [State.requesting_setArbiter]; exact hs.1
  have e : s.dropCandidate.nameCandidate = s.setArbiter a := by
    simp [State.dropCandidate, State.nameCandidate, hc, hn]
  rw [State.arbitrate_eq, e, State.arbitrate_candidate _ (h := h) hh hr]

/-! ### Where the arbiter comes to rest -/

/-- After the arbiter's part of an event the candidate requests, no candidate stands only where no naming finds one,
and no grant can be made (R62, R64 to R66). -/
theorem State.arbitrate_rest (t : State) (ht : s.arbitrate = t) :
    (∀ h, t.arbiter.candidate = some h → t.requesting h = true) ∧
      (t.arbiter.candidate = none → t.naming = none) ∧ t.grantPlan = none := by
  induction hn : s.idleCount using Nat.strong_induction_on generalizing s with
  | _ n ih =>
    rw [State.arbitrate_eq] at ht
    cases hp : s.dropCandidate.nameCandidate.grantPlan with
    | some p =>
      rw [hp] at ht
      have := State.idleCount_grant _ hp
      rw [State.idleCount_judged] at this
      exact ih _ (hn ▸ this) _ ht rfl
    | none =>
      rw [hp] at ht
      dsimp only at ht
      subst ht
      refine ⟨?_, ?_, hp⟩
      · have hd : ∀ h, s.dropCandidate.arbiter.candidate = some h → s.dropCandidate.requesting h = true := by
          intro h hh
          unfold State.dropCandidate at hh ⊢
          repeat' split at hh
          all_goals simp_all
        generalize s.dropCandidate = u at hd
        intro h hh
        unfold State.nameCandidate at hh ⊢
        split at hh
        · exact hd h hh
        · split at hh
          · rename_i a ha
            obtain ⟨i, hi, hs, -⟩ := u.naming_served ha
            have : i = h := by simpa [hi] using hh
            subst this
            simp only [State.served, Bool.and_eq_true] at hs
            simp_all [State.requesting_setArbiter]
          · exact hd h hh
      · generalize s.dropCandidate = u
        intro hh
        unfold State.nameCandidate at hh ⊢
        split at hh
        · simp_all
        · split at hh
          · rename_i a ha
            obtain ⟨i, hi, -, -⟩ := u.naming_served ha
            simp [hi] at hh
          · simp_all

end Sys2Proof.Machine
end

