-- ==== Sys2Proof/Laws/Links.lean ====
section
/-! SUPPORT. The service of a request, said once: which command serves which request, and what `serve` can answer. -/

namespace Sys2Proof.Machine

theorem PortState.note_eq (x : PortState) (c : LinkCause) :
    x.note c = { x with linkFault := some (x.linkFault.getD c) } := by
  cases x with
  | mk a b l d => cases l <;> rfl

theorem State.noteLinkFault_eq (s : State) (p : Port) (c : LinkCause) :
    s.noteLinkFault p c = s.setPort p { s.port p with linkFault := some ((s.port p).linkFault.getD c) } := by
  rw [State.noteLinkFault, PortState.note_eq]

theorem State.dropFrame_eq (s : State) (p : Port) (f : List Byte) :
    s.dropFrame p f = s.setPort p { s.port p with
      rx := some f, linkFault := some ((s.port p).linkFault.getD .overrun) } := by
  rw [State.dropFrame, PortState.note_eq]

/-! ### What serve answers -/

theorem serve_next (q : Request) (l p : Bool) (b : State → Answered) (s : State) : ∃ t, serve q l p b s = .next t := by
  unfold serve; split <;> [skip; split] <;> exact ⟨_, rfl⟩

theorem serve_overrun (q : Request) (l p : Bool) (b : State → Answered) (s : State)
    (h : (s.port q.port).inService = true) :
    serve q l p b s = .next (s.dropFrame q.port (requestFrame q.code q.tag q.payload)) := by
  simp [serve, h]

theorem serve_taken (q : Request) (l p : Bool) (b : State → Answered) (s : State) (h : s.takes q) :
    serve q l p b s = .next (judged q l p b s) := by
  have h2 : ¬ Config.maxPayload < q.payload.length := Nat.not_lt.mpr h.2
  simp [serve, h.1, h2]

theorem judged_badRequest (q : Request) (p : Bool) (b : State → Answered) (s : State) :
    judged q false p b s = s.answered q .badRequest [] := rfl

theorem judged_notPermitted (q : Request) (b : State → Answered) (s : State) :
    judged q true false b s = s.answered q .notPermitted [] := rfl

theorem judged_ok (q : Request) (b : State → Answered) (s t : State) (x : List Byte) (h : b s = .ok (t, x)) :
    judged q true true b s = t.answered q .ok x := by simp [judged, h]

theorem judged_error (q : Request) (b : State → Answered) (s : State) (c : AnswerCode) (h : b s = .error c) :
    judged q true true b s = s.answered q c [] := by simp [judged, h]

/-- A taken request is answered; with another code than OK the answer is the only change. -/
theorem judged_cases (q : Request) (l p : Bool) (b : State → Answered) (s : State) :
    ∃ code x u, judged q l p b s = State.answered u q code x ∧ (code ≠ .ok → u = s ∧ x = []) := by
  unfold judged
  split
  · split
    · split
      · rename_i r _; exact ⟨.ok, r.2, r.1, rfl, fun h => absurd rfl h⟩
      · rename_i c _; exact ⟨c, [], s, rfl, fun _ => ⟨rfl, rfl⟩⟩
    · exact ⟨_, _, s, rfl, fun _ => ⟨rfl, rfl⟩⟩
  · exact ⟨_, _, s, rfl, fun _ => ⟨rfl, rfl⟩⟩

/-- A property that answering, a drop and a link fault keep is kept by a served request whose body keeps it. A drop comes
only while a request is in service. -/
theorem serve_keeps {P : State → Prop} (hans : ∀ s q code x, P s → P (State.answered s q code x))
    (hdrop : ∀ s p f, (State.port s p).inService = true → P s → P (State.dropFrame s p f))
    (hnote : ∀ s p c, P s → P (State.noteLinkFault s p c)) {q : Request} {l p : Bool} {b : State → Answered} {s t : State}
    (hs : P s) (hb : ∀ u x, b s = .ok (u, x) → P u) (h : serve q l p b s = .next t) : P t := by
  unfold serve at h
  split at h
  · rename_i hb; cases h; exact hdrop _ _ _ hb hs
  · split at h
    · cases h; exact hnote _ _ _ hs
    · cases h
      unfold judged
      split
      · split
        · split
          · rename_i r hr; exact hans _ _ _ _ (hb _ _ hr)
          · exact hans _ _ _ _ hs
        · exact hans _ _ _ _ hs
      · exact hans _ _ _ _ hs

/-- A request that is accepted has passed each of its checks. -/
theorem ok_of_need {ok : Bool} {c : AnswerCode} {r : Answered} {u : State} {x : List Byte}
    (h : need ok c r = .ok (u, x)) : ok = true ∧ r = .ok (u, x) := by
  unfold need at h
  split at h
  · rename_i hok; exact ⟨hok, h⟩
  · cases h

theorem lane_of_ok {s u : State} {x : List Byte} {q : Request} {b : Lane → State → Answered}
    (h : (match portLane q.port with
      | some l => b l s
      | none => .error .notPermitted) = .ok (u, x)) : ∃ l, portLane q.port = some l ∧ b l s = .ok (u, x) := by
  split at h
  · rename_i l hl; exact ⟨l, hl, h⟩
  · cases h

/-! ### Which command serves which request -/

/-- A command that is a request serves it, with the length of R181 and the permission of R178 where its code is in the
catalogue, and as a bad request where it is not. -/
theorem exec_request (c : Instr) (q : Request) (h : requestOf c = some q) :
    ∃ (lengthOk permitted : Bool) (body : State → Answered),
      (∀ s, exec c s = serve q lengthOk permitted body s) ∧
      (q.code ∈ catalogue → lengthOk = (q.payload.length == q.neededLength) ∧ permitted = q.mayBeSent) ∧
      (q.code ∉ catalogue → lengthOk = false) := by
  cases c <;> simp only [requestOf, reduceCtorEq, Option.some.injEq, Option.ite_none_left_eq_some] at h
  case unknownRequestCode =>
    obtain ⟨h1, rfl⟩ := h
    exact ⟨false, true, fun _ => .error .badRequest, fun s => by simp [exec, execUnknownRequestCode, h1, serveAny],
      fun h => absurd h h1, fun _ => rfl⟩
  case laneReset p _ _ =>
    subst h
    refine ⟨_, _, _, fun s => rfl, fun _ => ?_, fun h => absurd (by simp [catalogue]) h⟩
    cases p <;> exact ⟨rfl, rfl⟩
  all_goals
    subst h
    refine ⟨_, _, _, fun s => rfl, fun _ => ⟨rfl, ?_⟩, fun h => absurd (by simp [catalogue]) h⟩
    rename_i p _ _ _
    cases p <;> rfl

end Sys2Proof.Machine
end

