-- ==== Sys2Proof/Laws/Modules.lean ====
section
/-! SUPPORT. The channel modules: what a running segment gives its module, which report is taken for it, and when a
health flag's skip is owed at an attempt end. -/

namespace Sys2Proof.Machine

/-- The running segment of a channel that has an attempt and a heating. -/
theorem State.segmentOf_eq {s : State} {c : ChannelId} {a : Attempt} {w : Heating} (ha : (s.chan c).attempt = some a)
    (hw : (s.chan c).heat = some w) : s.segmentOf c = (s.recipe a.recipe).segments[w.segment - 1]? := by
  simp [State.segmentOf, ha, hw]

/-- The energy task of a running segment: its energy target with the attempt's name and the segment index. -/
theorem State.energyTask_eq {s : State} {c : ChannelId} {a : Attempt} {w : Heating} {g : Segment}
    (ha : (s.chan c).attempt = some a) (hw : (s.chan c).heat = some w)
    (hg : (s.recipe a.recipe).segments[w.segment - 1]? = some g) :
    s.energyTask c = g.energyTarget.map fun t => { attempt := a.name, segment := w.segment, target := t } := by
  simp [State.energyTask, State.segmentOf, ha, hw, hg]

/-- A report is taken exactly when it names the running attempt and segment of a channel in HEATING, and the segment has
an energy target and a power above 0. -/
theorem State.reportTaken_iff {s : State} {c : ChannelId} {a : Attempt} {w : Heating} {g : Segment}
    (ha : (s.chan c).attempt = some a) (hw : (s.chan c).heat = some w)
    (hg : (s.recipe a.recipe).segments[w.segment - 1]? = some g) (n : AttemptName) (k : Nat) :
    s.reportTaken c n k = true ↔
      (s.chan c).state = .heating ∧ g.energyTarget.isSome ∧ a.name = n ∧ w.segment = k ∧ 0 < g.power := by
  rw [State.reportTaken, State.energyTask_eq ha hw hg, State.segmentOf_eq ha hw, hg]
  cases g.energyTarget <;> simp [and_assoc]

/-- What the module of a channel in HEATING is commanded to. -/
theorem State.moduleDrive_heating {s : State} {c : ChannelId} {a : Attempt} {w : Heating} {g : Segment}
    (hs : (s.chan c).state = .heating) (ha : (s.chan c).attempt = some a) (hw : (s.chan c).heat = some w)
    (hg : (s.recipe a.recipe).segments[w.segment - 1]? = some g) :
    s.moduleDrive c =
      { power := g.power, countFrom := some w.segStart
        task := g.energyTarget.map fun t => { attempt := a.name, segment := w.segment, target := t } } := by
  simp [State.moduleDrive, State.drivePower, State.segmentOf_eq ha hw, State.energyTask_eq ha hw hg, hs, hg, hw]

/-- Outside HEATING a module is commanded to nothing. -/
theorem State.moduleDrive_other {s : State} {c : ChannelId} (hs : (s.chan c).state ≠ .heating) :
    s.moduleDrive c = { power := 0, countFrom := none, task := none } := by
  simp [State.moduleDrive, hs]

/-- The skip is owed where the head is flagged or its move was abandoned, and the attempt's order is still active. -/
theorem State.skipIfFlagged_owed {s : State} {a : Attempt} {o : Order}
    (hf : (s.head a.head).health.any = true ∨ a.abandoned = true) (ho : s.active a.lane = some (a.slot, o)) :
    s.skipIfFlagged a = s.skipHead a.lane a.head := by
  rcases hf with h | h <;> simp [State.skipIfFlagged, State.isActive, ho, h]

/-- With no flag on the head and no abandoned move, or with the order gone, no skip is owed. -/
theorem State.skipIfFlagged_other {s : State} {a : Attempt}
    (h : ((s.head a.head).health.any = false ∧ a.abandoned = false) ∨ ∀ o, s.active a.lane ≠ some (a.slot, o)) :
    s.skipIfFlagged a = s := by
  unfold State.skipIfFlagged
  split
  · rename_i hc
    simp only [State.isActive, Bool.and_eq_true, Bool.or_eq_true, Option.any_eq_true, beq_iff_eq] at hc
    obtain ⟨hf, ⟨k, o⟩, ho, rfl⟩ := hc
    rcases h with ⟨h1, h2⟩ | h
    · rcases hf with hf | hf
      · rw [h1] at hf; cases hf
      · rw [h2] at hf; cases hf
    · exact absurd ho (h o)
  · rfl

end Sys2Proof.Machine
end

