-- ==== Sys2Proof/Laws/Power.lean ====
section
/-! SUPPORT. Committed power and the attempts on the channels: what each operation of the channels does to the power
law. -/

namespace Sys2Proof.Machine

/-- What the power law speaks of: the mode, committed power, each channel's state and the peak of its attempt. -/
def State.power (s : State) : Mode × Nat × (ChannelId → ChannelState × Option Nat) :=
  (s.mode, s.arbiter.committed, fun c => ((s.chan c).state, (s.chan c).attempt.map (·.peak)))

/-- The peak power of the attempt on a channel; 0 without one. -/
def ChannelRec.load (r : ChannelRec) : Nat := (r.attempt.map (·.peak)).getD 0

theorem State.peakSum_eq (s : State) : s.peakSum = (s.chan 0).load + ((s.chan 1).load + ((s.chan 2).load +
    ((s.chan 3).load + ((s.chan 4).load + (s.chan 5).load)))) := by
  simp [State.peakSum, allChannels, List.finRange_succ, ChannelRec.load]

theorem PowerLaw.of_power {s t : State} (h : t.power = s.power) (hs : PowerLaw s) : PowerLaw t := by
  obtain ⟨h0, h1, h2⟩ := hs
  have hm : t.mode = s.mode := congrArg (·.1) h
  have hc : t.arbiter.committed = s.arbiter.committed := congrArg (·.2.1) h
  have hf : ∀ c, ((t.chan c).state, (t.chan c).attempt.map (·.peak)) = ((s.chan c).state, (s.chan c).attempt.map (·.peak)) :=
    fun c => congrFun (congrArg (·.2.2) h) c
  have hst : ∀ c, (t.chan c).state = (s.chan c).state := fun c => congrArg (·.1) (hf c)
  have hpk : ∀ c, (t.chan c).attempt.map (·.peak) = (s.chan c).attempt.map (·.peak) := fun c => congrArg (·.2) (hf c)
  have hsome : ∀ c, (t.chan c).attempt.isSome = (s.chan c).attempt.isSome := fun c => by
    have := congrArg Option.isSome (hpk c); simpa using this
  refine ⟨fun hu c => ?_, fun c hc => ?_, ?_⟩
  · have := h0 (hm ▸ hu) c
    have h4 := hsome c
    rw [this] at h4
    exact Option.not_isSome_iff_eq_none.mp (by rw [h4]; simp)
  · rw [hst]; exact h1 c (by rw [← hsome]; exact hc)
  · rw [hc, h2]; simp only [State.peakSum_eq, ChannelRec.load, hpk]

theorem State.power_of_plant {s t : State} (hp : t.plant = s.plant) (hm : t.mode = s.mode) : t.power = s.power := by
  simp only [State.power, State.committed_of_plant hp, State.chan_of_plant hp, hm]

theorem PowerLaw.of_plant {s t : State} (hp : t.plant = s.plant) (ho : t.outer = s.outer) (hs : PowerLaw s) :
    PowerLaw t := hs.of_power (State.power_of_plant hp (State.mode_of_outer ho))

/-- The sum after one channel is replaced. -/
theorem State.peakSum_setChan (s : State) (c : ChannelId) (x : ChannelRec) :
    (s.setChan c x).peakSum + (s.chan c).load = s.peakSum + x.load := by
  simp only [State.peakSum_eq, State.chan_setChan]
  fin_cases c <;> simp <;> omega

theorem State.load_le_peakSum (s : State) (c : ChannelId) : (s.chan c).load ≤ s.peakSum := by
  rw [State.peakSum_eq]; fin_cases c <;> simp <;> omega

/-- One channel replaced and committed power moved with its load. -/
theorem PowerLaw.setChan {s t : State} (hs : PowerLaw s) (c : ChannelId) (x : ChannelRec)
    (ht : t.channels = (s.setChan c x).channels) (hm : t.mode = s.mode)
    (hx : x.attempt.isSome → (x.state = .transfer ∨ x.state = .heating) ∧ s.mode ≠ .unconfigured)
    (hc : t.arbiter.committed + (s.chan c).load = s.arbiter.committed + x.load) : PowerLaw t := by
  obtain ⟨h0, h1, h2⟩ := hs
  have hch : ∀ d, t.chan d = if d = c then x else s.chan d := fun d => by
    rw [State.chan_congr ht, State.chan_setChan]
  refine ⟨fun hu d => ?_, fun d hd => ?_, ?_⟩
  · rw [hch]; split
    · by_contra hne
      exact (hx (Option.isSome_iff_ne_none.mpr hne)).2 (hm ▸ hu)
    · exact h0 (hm ▸ hu) d
  · rw [hch] at hd ⊢
    split at hd
    · rename_i e; rw [if_pos e]; exact (hx hd).1
    · rename_i e; rw [if_neg e]; exact h1 d hd
  · have h3 := s.peakSum_setChan c x
    have h4 : t.peakSum = (s.setChan c x).peakSum := by simp only [State.peakSum_eq, State.chan_congr ht]
    omega

/-- A channel replaced by one with the same state and the same attempt peak. -/
theorem State.power_modChan (s : State) (c : ChannelId) (f : ChannelRec → ChannelRec)
    (h1 : (f (s.chan c)).state = (s.chan c).state)
    (h2 : (f (s.chan c)).attempt.map (·.peak) = (s.chan c).attempt.map (·.peak)) : (s.modChan c f).power = s.power := by
  simp only [State.power, State.modChan, State.mode, State.chan_setChan, State.setChan_cabinet, State.setChan_arbiter]
  refine congrArg _ (congrArg _ (funext fun d => ?_))
  by_cases hd : d = c
  · subst hd; simp [h1, h2]
  · simp [hd]

/-! ### The operations -/

theorem State.setParked_power (s : State) (c : ChannelId) (h : Option HeadId) : (s.setParked c h).power = s.power := by
  simp only [State.power, State.chan_setParked, State.arbiter_setParked]
  refine Prod.ext (State.mode_of_outer (by simp)) (Prod.ext rfl (funext fun d => ?_))
  dsimp only
  split
  · rename_i e; rw [e]
  · rfl

theorem State.setStay_power (s : State) (c : ChannelId) (h : Option HeadId) : (s.setStay c h).power = s.power := rfl

theorem State.abandonMove_power (s : State) (h : HeadId) : (s.abandonMove h).power = s.power := by
  unfold State.abandonMove
  split
  · refine State.power_modChan _ _ _ rfl ?_
    simp only [Option.map_map]; rfl
  · rfl

theorem State.skipHead_power (s : State) (l : Lane) (h : HeadId) : (s.skipHead l h).power = s.power :=
  State.power_of_plant (by simp) (State.mode_of_outer (by simp))

theorem State.setHealth_power (s : State) (h : HeadId) (f : HealthFlag) : (s.setHealth h f).power = s.power := by
  unfold State.setHealth
  dsimp only
  split
  · rfl
  · split
    · rw [State.skipHead_power, State.abandonMove_power]
      exact State.power_of_plant (by simp) (State.mode_of_outer (by simp))
    · rw [State.abandonMove_power]
      exact State.power_of_plant (by simp) (State.mode_of_outer (by simp))

theorem State.startSegment_power (s : State) (c : ChannelId) (n : Nat) : (s.startSegment c n).power = s.power := by
  unfold State.startSegment
  split
  · rfl
  · split
    · rfl
    · exact State.power_modChan _ _ _ rfl rfl

theorem State.recordSegment_power (s : State) (c : ChannelId) (r : EndReason) :
    (s.recordSegment c r).power = s.power := by
  unfold State.recordSegment
  split
  · rfl
  · refine Prod.ext rfl (Prod.ext rfl (funext fun d => ?_))
    simp only [State.power, State.chan, State.modChan, State.setChan, Vector.get_set_fin]
    by_cases hd : d = c
    · subst hd; simp
    · simp [hd]

/-- The channel that enters HEATING keeps its attempt. -/
theorem PowerLaw.enterHeating {s : State} (hs : PowerLaw s) (c : ChannelId) : PowerLaw (s.enterHeating c) := by
  unfold State.enterHeating
  split
  · exact hs
  · rename_i a ha
    have hu : s.mode ≠ .unconfigured := fun h => by rw [hs.1 h c] at ha; cases ha
    have h1 : PowerLaw (s.setChan c
        { s.chan c with state := .heating, moveTimer := none, heat := some (Heating.fresh s.now) }) :=
      hs.setChan c _ rfl rfl (fun _ => ⟨.inr rfl, hu⟩) rfl
    refine PowerLaw.of_power (State.startSegment_power _ _ _) (h1.of_plant ?_ (by simp))
    rw [State.modHead_eq, State.setHead_plant, State.modJoint_plant]
    rfl

/-- A channel without an attempt goes FAULTED. -/
theorem PowerLaw.faultChannel {s : State} (hs : PowerLaw s) (c : ChannelId) (h : (s.chan c).attempt = none) :
    PowerLaw (s.faultChannel c) := by
  refine hs.setChan c { (s.chan c).clear with state := .faulted, parked := none } ?_ (State.mode_of_outer (by simp))
    (fun h => by cases h) ?_
  · refine Vector.ext fun i hi => ?_
    have := State.chan_faultChannel s c ⟨i, hi⟩
    have h2 := State.chan_setChan s c ⟨i, hi⟩ { (s.chan c).clear with state := .faulted, parked := none }
    rw [← h2] at this
    simpa [State.chan, Vector.get_eq_getElem] using this
  · rw [State.committed_faultChannel]; simp [ChannelRec.load, h, ChannelRec.clear]

/-- Steps 2 to 4 of an attempt end take the attempt's load off. -/
theorem PowerLaw.closeAttempt {s : State} (hs : PowerLaw s) (c : ChannelId) (r : AttemptResult) (d : ChannelEnd) :
    PowerLaw (s.closeAttempt c r d) := by
  unfold State.closeAttempt
  split
  · exact hs
  · rename_i a ha
    have hl : (s.chan c).load = a.peak := by simp [ChannelRec.load, ha]
    have hle := s.load_le_peakSum c
    have hsum := hs.2.2
    have hp := State.recordAttempt_plant s c a r
    have ho := State.recordAttempt_outer s c a r
    have h1 : PowerLaw (((s.recordAttempt c a r).release a).modChan c ChannelRec.clear) := by
      refine hs.setChan c ((s.chan c).clear) ?_ (State.mode_of_outer (by simp)) (fun h => by cases h) ?_
      · simp only [State.modChan, State.setChan, State.chan, State.release, State.modArbiter, State.setArbiter,
          State.channels_of_plant hp]
      · show (s.recordAttempt c a r).arbiter.committed - a.peak + _ = _ + 0
        rw [State.committed_of_plant hp, hl]
        omega
    cases d with
    | idle => exact h1
    | faulted =>
      exact h1.faultChannel c (by rw [State.modChan_eq, State.chan_setChan, if_pos rfl]; rfl)

theorem State.takeResult_power (s : State) (a : Attempt) (r : AttemptResult) : (s.takeResult a r).power = s.power :=
  State.power_of_plant (by simp) (State.mode_of_outer (by simp))

theorem PowerLaw.endAttempt {s : State} (hs : PowerLaw s) (c : ChannelId) (r : AttemptResult) (d : ChannelEnd) :
    PowerLaw (s.endAttempt c r d) := by
  unfold State.endAttempt
  split
  · exact hs
  · rename_i a ha
    have h1 := (hs.closeAttempt c r d).of_power (State.takeResult_power _ a r)
    dsimp only
    split
    · rename_i f _
      exact (h1.of_power (State.setHealth_power _ a.head f)).of_plant (by simp) (by simp)
    · exact h1.of_plant (by simp) (by simp)

theorem PowerLaw.recordSegment {s : State} (hs : PowerLaw s) (c : ChannelId) (r : EndReason) :
    PowerLaw (s.recordSegment c r) := hs.of_power (State.recordSegment_power s c r)

theorem PowerLaw.cutAttempt {s : State} (hs : PowerLaw s) (c : ChannelId) (r : AttemptResult) (d : ChannelEnd) :
    PowerLaw (s.cutAttempt c r d) := (hs.recordSegment c .cut).endAttempt c r d

theorem PowerLaw.segmentEnd {s : State} (hs : PowerLaw s) (c : ChannelId) (r : EndReason) :
    PowerLaw (s.segmentEnd c r) := by
  unfold State.segmentEnd
  have h1 := hs.recordSegment c r
  (repeat' split) <;> first
    | exact hs
    | exact h1.endAttempt _ _ _
    | exact h1.of_power (State.startSegment_power _ _ _)

/-! ### The grant -/

theorem State.countGrant_power (s : State) : s.countGrant.power = s.power := rfl

theorem PowerLaw.grant {s : State} (hs : PowerLaw s) (p : GrantPlan) (hp : s.grantPlan = some p) :
    PowerLaw (s.grant p) := by
  obtain ⟨-, hr, hc, -, -⟩ := s.grantPlan_spec p hp
  have hu : s.mode ≠ .unconfigured := fun h => by
    have := s.working_of_requesting _ hr
    simp [State.working, h] at this
  have hg := s.chooseChannel_grantable _ _ hc
  have hidle : (s.chan p.channel).state = .idle := by
    simp only [State.grantable, Bool.and_eq_true, beq_iff_eq] at hg; exact hg.1
  have hnone : (s.chan p.channel).attempt = none := by
    by_contra hne
    rcases hs.2.1 _ (Option.isSome_iff_ne_none.mpr hne) with h | h <;> rw [hidle] at h <;> cases h
  have h5 : ∀ t : State, t.channels = s.channels → t.mode = s.mode →
      t.arbiter.committed = s.arbiter.committed + (s.newAttempt p).peak →
      PowerLaw (t.modChan p.channel fun r =>
        { r with state := .transfer, attempt := some (s.newAttempt p), moveTimer := some s.transferTime }) := by
    intro t ht hm hk
    refine hs.setChan p.channel { t.chan p.channel with
        state := .transfer, attempt := some (s.newAttempt p), moveTimer := some s.transferTime } ?_ hm
      (fun _ => ⟨.inl rfl, hu⟩) ?_
    · simp only [State.modChan, State.setChan, ht]
    · show t.arbiter.committed + _ = _ + (s.newAttempt p).peak
      rw [hk]; simp [ChannelRec.load, hnone]
  have h6 := (h5 ((((s.reserve p.lane (s.recipe p.joint.recipe).recordSize).modArbiter fun x =>
      { x with committed := x.committed + (s.newAttempt p).peak }).modJoint p.lane p.slot p.index fun j =>
      { j with attempts := j.attempts + 1, state := .transfer }).modOrder p.lane p.slot fun o =>
      { o with proof := o.proof || (s.newAttempt p).proof })
    (by rw [State.channels_of_plant (State.modOrder_plant ..), State.channels_of_plant (State.modJoint_plant ..)]; rfl)
    (State.mode_of_outer (by simp))
    (by rw [State.committed_of_plant (State.modOrder_plant ..), State.committed_of_plant (State.modJoint_plant ..)]; rfl))
  have h7 := (h6.of_power (State.setParked_power _ p.channel (some p.head))).of_power
    (State.setStay_power _ p.channel none)
  unfold State.grant
  dsimp only
  refine PowerLaw.of_power (State.countGrant_power _) ?_
  split
  · exact (h7.enterHeating p.channel).of_power rfl
  · exact h7.of_power rfl

theorem PowerLaw.nameCandidate {s : State} (hs : PowerLaw s) : PowerLaw s.nameCandidate := by
  unfold State.nameCandidate
  split
  · exact hs
  · split
    · rename_i a ha
      refine hs.of_power ?_
      have : a.committed = s.arbiter.committed := by
        unfold State.naming at ha
        dsimp only at ha
        (repeat' split at ha) <;> first
          | cases ha; rfl
          | cases ha
      simp only [State.power, State.setArbiter, State.mode, State.chan, this]
    · exact hs

theorem PowerLaw.arbitrate {s : State} (hs : PowerLaw s) : PowerLaw s.arbitrate := by
  suffices h : ∀ n (t : State), PowerLaw t → PowerLaw (arbitrateRounds n t) from h 7 s hs
  intro n
  induction n with
  | zero => exact fun _ h => h
  | succ n ih =>
    intro t ht
    have h1 := (ht.of_plant t.dropCandidate_plant t.dropCandidate_outer).nameCandidate
    unfold arbitrateRounds
    dsimp only
    split
    · rename_i p hp; exact ih _ (h1.grant p hp)
    · exact h1

/-! ### Stopping and resetting the channels, LANE_RESET, ABORT_ORDER, contained faults -/

theorem PowerLaw.interruptAttempt {s : State} (hs : PowerLaw s) (c : ChannelId) : PowerLaw (s.interruptAttempt c) := by
  unfold State.interruptAttempt
  dsimp only
  split
  · exact (hs.recordSegment c .cut).closeAttempt _ _ _
  · exact hs.closeAttempt _ _ _

/-- No attempt anywhere and nothing committed. -/
theorem PowerLaw.of_empty {s : State} (h : ∀ c, (s.chan c).attempt = none) (hc : s.arbiter.committed = 0) : PowerLaw s :=
  ⟨fun _ => h, fun c (hs : (s.chan c).attempt.isSome = true) => (by rw [h c] at hs; cases hs), by rw [hc, State.peakSum_eq]; simp [ChannelRec.load, h]⟩

theorem PowerLaw.stopWork (s : State) : PowerLaw s.stopWork := .of_empty s.stopWork_attempt s.stopWork_committed

/-- A quench leaves no attempt and nothing committed. -/
theorem PowerLaw.quench (s : State) (e : FaultEntry) : PowerLaw (s.quench e) :=
  .of_empty (fun c => by rw [State.chan_of_plant (s.quench_plant e)]; exact State.stopWork_attempt _ c)
    (by rw [State.committed_of_plant (s.quench_plant e)]; exact State.stopWork_committed _)

theorem PowerLaw.quenchCause {s : State} (hs : PowerLaw s) (e : FaultEntry) : PowerLaw (s.quenchCause e) := by
  unfold State.quenchCause
  split
  · exact hs
  · exact .quench s e
  · exact .quench s e
  · exact .quench s e
  · exact hs.of_power rfl

theorem State.containError_power (s : State) (e : FaultEntry) : (s.containError e).power = s.power := rfl

theorem PowerLaw.containChannel {s : State} (hs : PowerLaw s) (cause : AbortCause) (c : ChannelId) :
    PowerLaw (s.containChannel cause c) := by
  unfold State.containChannel
  split
  · exact hs
  · rename_i h
    refine hs.faultChannel c ?_
    by_contra hne
    rcases hs.2.1 c (Option.isSome_iff_ne_none.mpr hne) with h1 | h1 <;> rw [h] at h1 <;> cases h1
  · split
    · exact hs.endAttempt _ _ _
    · rename_i h; exact hs.faultChannel c (by simpa using h)
  · exact hs.cutAttempt _ _ _
  · exact hs
  · exact hs.of_power (State.power_modChan s c _ rfl rfl)

theorem PowerLaw.channelFault {s : State} (hs : PowerLaw s) (cls : CauseClass) (cause : AbortCause) (r : Response)
    (c : ChannelId) : PowerLaw (s.channelFault cls cause r c) := by
  unfold State.channelFault
  dsimp only
  split
  · exact hs
  · split
    · exact hs.quenchCause _
    · exact (hs.containChannel cause c).of_power (State.containError_power _ _)

theorem PowerLaw.headCoolantFault {s : State} (hs : PowerLaw s) (h : HeadId) (c : ChannelId) :
    PowerLaw (s.headCoolantFault h c) := by
  unfold State.headCoolantFault
  dsimp only
  split
  · exact (hs.cutAttempt _ _ _).of_power (State.containError_power _ _)
  · exact (hs.quenchCause _).of_power (State.setHealth_power _ _ _)

theorem PowerLaw.standingAlarms {s : State} (hs : PowerLaw s) : PowerLaw s.standingAlarms := by
  have h1 : ∀ (t : State) (i : CabinetInput), PowerLaw t → PowerLaw (t.standing i) := by
    intro t i ht
    unfold State.standing
    split
    · exact ht.quenchCause _
    · exact ht
  unfold State.standingAlarms
  exact h1 _ _ (h1 _ _ (h1 _ _ hs))

theorem PowerLaw.removeAttempt {s : State} (hs : PowerLaw s) (l : Lane) (c : ChannelId) :
    PowerLaw (State.removeAttempt l s c) := by
  unfold State.removeAttempt
  split
  · exact hs
  · rename_i a ha
    have hl : (s.chan c).load = a.peak := by simp [ChannelRec.load, ha]
    have hle := s.load_le_peakSum c
    have hsum := hs.2.2
    dsimp only
    split
    · split
      · refine hs.setChan c ((s.chan c).clear) rfl rfl (fun h => by cases h) ?_
        show s.arbiter.committed - a.peak + _ = _ + 0
        omega
      · refine hs.setChan c { s.chan c with attempt := none } rfl rfl (fun h => by cases h) ?_
        show s.arbiter.committed - a.peak + _ = _ + 0
        omega
    · exact hs

theorem PowerLaw.abortChannel {s : State} (hs : PowerLaw s) (l : Lane) (k : SlotId) (c : ChannelId) :
    PowerLaw (State.abortChannel l k s c) := by
  unfold State.abortChannel
  split
  · split
    · exact hs
    · rename_i a ha
      split
      · exact ((hs.recordSegment c .cut).closeAttempt c _ _).of_plant (State.modJoint_plant ..) (State.modJoint_outer ..)
      · exact hs.of_power (State.power_modChan s c _ rfl (by simp [ha]))
  · exact hs

theorem PowerLaw.foldl {f : State → ChannelId → State} (h : ∀ t c, PowerLaw t → PowerLaw (f t c)) :
    ∀ (cs : List ChannelId) (t : State), PowerLaw t → PowerLaw (cs.foldl f t)
  | [], _, ht => ht
  | c :: cs, t, ht => PowerLaw.foldl h cs (f t c) (h t c ht)

/-! ### What the commands are made of -/

theorem PowerLaw.of_plant_outer {s t : State} (hs : PowerLaw s) (hp : t.plant = s.plant) (ho : t.outer = s.outer) :
    PowerLaw t := hs.of_plant hp ho
theorem PowerLaw.of_plant_cabinet (s t : State) (hs : PowerLaw s) (hp : t.plant = s.plant)
    (ho : t.cabinet = s.cabinet) : PowerLaw t := hs.of_power (State.power_of_plant hp (by simp [State.mode, ho]))
theorem State.elapse_power (s : State) (n : Nat) : (s.elapse n).power = s.power := by
  simp [State.power, State.elapse, State.chan, State.mode]

theorem PowerLaw.tryActivation {s : State} (hs : PowerLaw s) (l) : PowerLaw (s.tryActivation l) := PowerLaw.of_plant_outer hs (by simp) (by simp)
theorem State.windDown_plant (s : State) (l k w) : (s.windDown l k w).plant = s.plant := by
  unfold State.windDown; simp
theorem State.windDown_outer (s : State) (l k w) : (s.windDown l k w).outer = s.outer := by
  unfold State.windDown; simp
theorem PowerLaw.reset (s) : PowerLaw { State.reset with pending := s, draws := d, grants := g } := by
  refine PowerLaw.of_empty (fun c => ?_) rfl
  revert c; show ∀ c, (State.reset.chan c).attempt = none; decide +kernel
theorem PowerLaw.laneReset {s : State} (hs : PowerLaw s) (l) : PowerLaw (s.laneReset l) := by
  unfold State.laneReset
  refine PowerLaw.arbitrate ?_
  have h0 : PowerLaw ((s.dropLaneRefs l).modOm l OrderManager.laneReset) := by
    refine PowerLaw.of_plant_outer hs ?_ ?_
    · simp; unfold State.dropLaneRefs; exact State.foldl_plant _ (fun t a => by split <;> simp) _ _
    · simp; unfold State.dropLaneRefs; exact State.foldl_outer _ (fun t a => by split <;> simp) _ _
  have h1 := PowerLaw.foldl (f := State.removeAttempt l) (fun t c ht => ht.removeAttempt l c) allChannels _ h0
  generalize allChannels.foldl (State.removeAttempt l) _ = u at h1 ⊢
  have e1 : (u.emptyRing l).plant = u.plant := rfl
  have e2 : (u.emptyRing l).outer = u.outer := rfl
  refine PowerLaw.of_plant_outer h1 ?_ ?_
  · simp [State.clearLaneHeads]; exact e1
  · simp [State.clearLaneHeads]; exact e2
theorem PowerLaw.abortOrder {s : State} (hs : PowerLaw s) (l k o) : PowerLaw (s.abortOrder l k o) := by
  unfold State.abortOrder
  dsimp only
  split
  · exact hs
  · refine PowerLaw.arbitrate ?_
    have h0 : PowerLaw ((s.modOrder l k fun x => { x with abort := true }).windDown l k .notRun) := by
      refine PowerLaw.of_plant_outer hs ?_ ?_
      · rw [State.windDown_plant]; simp
      · rw [State.windDown_outer]; simp
    have h1 := PowerLaw.foldl (f := State.abortChannel l k) (fun t c ht => ht.abortChannel l k c) allChannels _ h0
    exact PowerLaw.of_plant_outer h1 (by simp) (by simp)
theorem PowerLaw.resetChannels (s : State) : PowerLaw s.resetChannels := by
  refine PowerLaw.of_empty (fun c => ?_) ?_
  · rw [State.chan_resetChannels]; exact ChannelRec.reset81_attempt _
  · unfold State.resetChannels; rw [State.modArbiter_eq]; rfl
theorem PowerLaw.setCabinet {s : State} (hs : PowerLaw s) (x : Cabinet) (hx : x.mode ≠ .unconfigured) : PowerLaw (s.setCabinet x) := ⟨fun h => absurd h hx, hs.2.1, hs.2.2⟩
theorem PowerLaw.cabinetReset (s : State) : PowerLaw s.cabinetReset := by
  unfold State.cabinetReset
  refine PowerLaw.standingAlarms ?_
  have h1 := PowerLaw.resetChannels s
  split
  · unfold State.resetQuenched
    generalize s.resetChannels = u at h1 ⊢
    refine PowerLaw.setCabinet ?_ _ (by simp [Cabinet.settle])
    exact PowerLaw.of_plant_cabinet _ _ h1 rfl rfl
  · unfold State.resetWorking
    generalize s.resetChannels = u at h1 ⊢
    refine PowerLaw.setCabinet ?_ _ (by simp [Cabinet.settle])
    exact PowerLaw.of_plant_outer (PowerLaw.of_plant_outer h1 (State.interruptLane_plant _ _) (State.interruptLane_outer _ _)) (State.interruptLane_plant _ _) (State.interruptLane_outer _ _)
theorem PowerLaw.setUp {s : State} (hs : PowerLaw s) (h : s.mode = .unconfigured) (x) : PowerLaw (s.setUp x) := by
  unfold State.setUp
  dsimp only
  refine PowerLaw.standingAlarms ?_
  refine PowerLaw.setCabinet (PowerLaw.of_empty (fun c => ?_) rfl) _ (by simp [Cabinet.setUp])
  simp only [State.modArbiter_eq, State.chan_setArbiter, State.chan_mapChans, installChannel]
  split
  · rfl
  · exact hs.1 h c
theorem PowerLaw.unparkAll {s : State} (hs : PowerLaw s) : PowerLaw s.unparkAll := by
  unfold State.unparkAll
  have := PowerLaw.foldl (f := State.unparkIdle) (fun t c ht => by
    unfold State.unparkIdle; split
    · exact ht.of_power (State.setParked_power _ _ _)
    · exact ht) allChannels s hs
  exact PowerLaw.of_plant_outer this (by simp) (by simp)

theorem PowerLaw.matrixFault {s : State} (hs : PowerLaw s) (c) : PowerLaw (s.matrixFault c) := hs.channelFault _ _ _ _
theorem PowerLaw.checkMatrix {s : State} (hs : PowerLaw s) (c b) : PowerLaw (s.checkMatrix c b) := by
  unfold State.checkMatrix; split; exact hs; exact PowerLaw.matrixFault hs c
theorem PowerLaw.clear {s : State} (hs : PowerLaw s) (c) (h : (s.chan c).attempt = none) : PowerLaw (s.modChan c ChannelRec.clear) :=
  hs.setChan c (s.chan c).clear rfl rfl (fun h => by cases h) (by simp [ChannelRec.load, ChannelRec.clear, h])
theorem PowerLaw.moveCompletes {s : State} (hs : PowerLaw s) (c b d) : PowerLaw (s.moveCompletes c b d) := by
  unfold State.moveCompletes
  split
  · rename_i h; exact PowerLaw.checkMatrix (PowerLaw.clear hs c h) _ _
  · split
    · exact PowerLaw.checkMatrix (hs.endAttempt _ _ _) _ _
    · split
      · split
        · exact hs.endAttempt _ _ _
        · exact hs.enterHeating _
      · exact PowerLaw.matrixFault hs _
theorem PowerLaw.setHead {s : State} (hs : PowerLaw s) (h x) : PowerLaw (s.setHead h x) := hs.of_power rfl
theorem PowerLaw.inputCause {s : State} (hs : PowerLaw s) (i) : PowerLaw (s.inputCause i) := hs.quenchCause _
theorem PowerLaw.clearHealth {s : State} (hs : PowerLaw s) (h n) : PowerLaw (s.clearHealth h n) := by
  unfold State.clearHealth
  dsimp only
  refine PowerLaw.arbitrate ?_
  split
  · exact (PowerLaw.setHead hs _ _).of_power (State.setHealth_power _ _ _)
  · exact PowerLaw.setHead hs _ _
theorem PowerLaw.takeCooled {s : State} (hs : PowerLaw s) (h) : PowerLaw (s.takeCooled h) := by
  unfold State.takeCooled
  dsimp only
  split
  · exact (PowerLaw.setHead hs _ _).arbitrate
  · refine PowerLaw.arbitrate ?_
    split
    · exact PowerLaw.of_plant_outer hs (by simp) (by simp)
    · exact PowerLaw.setHead hs _ _
theorem PowerLaw.coolantLow {s : State} (hs : PowerLaw s) (h) : PowerLaw (s.coolantLow h) := by
  unfold State.coolantLow
  split
  · exact hs
  · split
    · exact (hs.headCoolantFault _ _).arbitrate
    · exact (hs.of_power (State.setHealth_power _ _ _)).arbitrate
theorem PowerLaw.storeReading {s : State} (hs : PowerLaw s) (h v) : PowerLaw (s.storeReading h v) := by
  unfold State.storeReading State.takeReading State.notePeak
  dsimp only
  have h1 := PowerLaw.setHead hs h { s.head h with temp := some v, sensorTimer := some Config.sensorTimeout }
  split
  · exact h1
  · split
    · refine PowerLaw.arbitrate ?_
      have h2 := fun c => h1.of_power (State.power_modChan (s.setHead h { s.head h with temp := some v, sensorTimer := some Config.sensorTimeout }) c (fun r => { r with heat := r.heat.map fun (w : Heating) => { w with peakTemp := max w.peakTemp v } }) rfl rfl)
      split
      · exact (h2 _).cutAttempt _ _ _
      · split
        · exact (h2 _).segmentEnd _ _
        · exact h2 _
    · exact h1
theorem PowerLaw.takeSensorExpiry {s : State} (hs : PowerLaw s) (h) : PowerLaw (s.takeSensorExpiry h) := by
  unfold State.takeSensorExpiry
  dsimp only
  have h1 := PowerLaw.setHead hs h { s.head h with temp := none, sensorTimer := none }
  split
  · exact h1
  · split
    · exact (h1.cutAttempt _ _ _).arbitrate
    · exact h1

end Sys2Proof.Machine
end

