-- ==== Sys2Proof/Laws/Results.lean ====
section
/-! SUPPORT. The rings' records and readers and the RESULTS_PENDING marks: what each operation does to the results law. -/

namespace Sys2Proof.Machine

/-- What the results law speaks of: each ring's records and reader, and each unit's marks. -/
def State.res (s : State) : (Lane → List Record × Reader) × (Port → LaneTbl Bool) :=
  (fun l => ((s.ring l).records, (s.ring l).reader), fun p => (s.unit p).results)

theorem ResultsLaw.of_res {s t : State} (h : t.res = s.res) (hs : ResultsLaw s) : ResultsLaw t := by
  intro p l
  have h1 : (t.unit p).results = (s.unit p).results := congrFun (congrArg (·.2) h) p
  have h2 : ((t.ring l).records, (t.ring l).reader) = ((s.ring l).records, (s.ring l).reader) :=
    congrFun (congrArg (·.1) h) l
  have h3 : (t.ring l).records = (s.ring l).records := congrArg (·.1) h2
  have h4 : (t.ring l).reader = (s.ring l).reader := congrArg (·.2) h2
  simpa only [h1, State.resultsHeld, State.isReader, h3, h4] using hs p l

variable (s : State)

/-! ### Operations that touch no record, reader or mark -/

@[simp] theorem State.setPort_res (p : Port) (x : PortState) : (s.setPort p x).res = s.res := rfl
@[simp] theorem State.setOm_res (l : Lane) (x : OrderManager) : (s.setOm l x).res = s.res := rfl
@[simp] theorem State.setHead_res (h : HeadId) (x : HeadRec) : (s.setHead h x).res = s.res := rfl
@[simp] theorem State.setChan_res (c : ChannelId) (x : ChannelRec) : (s.setChan c x).res = s.res := rfl
@[simp] theorem State.setArbiter_res (x : Arbiter) : (s.setArbiter x).res = s.res := rfl
@[simp] theorem State.setFaults_res (x : FaultControl) : (s.setFaults x).res = s.res := rfl
@[simp] theorem State.setCabinet_res (x : Cabinet) : (s.setCabinet x).res = s.res := rfl
@[simp] theorem State.mapHeads_res (f : HeadId → HeadRec → HeadRec) : (s.mapHeads f).res = s.res := rfl
@[simp] theorem State.mapChans_res (f : ChannelId → ChannelRec → ChannelRec) : (s.mapChans f).res = s.res := rfl
@[simp] theorem State.addRefs_res (set : List RecipeId) : (s.addRefs set).res = s.res := rfl
@[simp] theorem State.dropRefs_res (set : List RecipeId) : (s.dropRefs set).res = s.res := rfl
@[simp] theorem State.elapse_res (n : Nat) : (s.elapse n).res = s.res := rfl
@[simp] theorem State.answered_res (q : Request) (c : AnswerCode) (x : List Byte) : (s.answered q c x).res = s.res := rfl
@[simp] theorem State.noteLinkFault_res (p : Port) (c : LinkCause) : (s.noteLinkFault p c).res = s.res := rfl
@[simp] theorem State.dropFrame_res (p : Port) (f : List Byte) : (s.dropFrame p f).res = s.res := rfl

/-- A unit changed but for its marks. -/
theorem State.setUnit_res (p : Port) (x : EventUnit) (h : x.results = (s.unit p).results) :
    (s.setUnit p x).res = s.res := by
  simp only [State.res, State.unit_setUnit]
  refine Prod.ext rfl (funext fun q => ?_)
  dsimp only
  split
  · rename_i e; rw [e]; exact h
  · rfl

/-- A ring changed but for its records and its reader. -/
theorem State.setRing_res (l : Lane) (x : Ring) (h1 : x.records = (s.ring l).records)
    (h2 : x.reader = (s.ring l).reader) : (s.setRing l x).res = s.res := by
  simp only [State.res, State.ring_setRing]
  refine Prod.ext (funext fun m => ?_) rfl
  dsimp only
  split
  · rename_i e; rw [e, h1, h2]
  · rfl

@[simp] theorem State.reserve_res (l : Lane) (n : Nat) : (s.reserve l n).res = s.res := s.setRing_res l _ rfl rfl
@[simp] theorem State.unreserve_res (l : Lane) (n : Nat) : (s.unreserve l n).res = s.res := s.setRing_res l _ rfl rfl
@[simp] theorem State.post_res (p : Port) (k : PostedKind) (c : Context) : (s.post p k c).res = s.res :=
  s.setUnit_res p _ (by cases k <;> rfl)
@[simp] theorem State.reportHalted_res (l : Lane) (b : Bool) : (s.reportHalted l b).res = s.res :=
  s.setUnit_res _ _ rfl
@[simp] theorem State.reportPost_res (l : Lane) : (s.reportPost l).res = s.res := s.setUnit_res _ _ rfl
@[simp] theorem State.setSlot_res (l : Lane) (k : SlotId) (o : Option Order) : (s.setSlot l k o).res = s.res := rfl
@[simp] theorem State.setStay_res (c : ChannelId) (h : Option HeadId) : (s.setStay c h).res = s.res := rfl
@[simp] theorem State.liftStays_res (w : HeadId → Bool) : (s.liftStays w).res = s.res := rfl
@[simp] theorem State.release_res (a : Attempt) : (s.release a).res = s.res := rfl
@[simp] theorem State.fillLogs_res (e : FaultEntry) (b : Bool) : (s.fillLogs e b).res = s.res := rfl
@[simp] theorem State.containError_res (e : FaultEntry) : (s.containError e).res = s.res := by
  simp [State.containError]
@[simp] theorem State.modOrder_res (l : Lane) (k : SlotId) (f : Order → Order) :
    (s.modOrder l k f).res = s.res := by unfold State.modOrder; split <;> simp
@[simp] theorem State.modJoint_res (l : Lane) (k : SlotId) (i : Nat) (f : Joint → Joint) :
    (s.modJoint l k i f).res = s.res := by simp [State.modJoint]
@[simp] theorem State.mapJoints_res (l : Lane) (k : SlotId) (f : Joint → Joint) :
    (s.mapJoints l k f).res = s.res := by simp [State.mapJoints]
@[simp] theorem State.setParked_res (c : ChannelId) (h : Option HeadId) : (s.setParked c h).res = s.res := by
  unfold State.setParked; cases h <;> (dsimp only; split <;> (try split) <;> simp)
@[simp] theorem State.nameCandidate_res : s.nameCandidate.res = s.res := by
  unfold State.nameCandidate; split <;> (try split) <;> simp
@[simp] theorem State.dropCandidate_res : s.dropCandidate.res = s.res := by
  unfold State.dropCandidate; split <;> (try split) <;> simp
@[simp] theorem State.dropCandidateIf_res (w : HeadId → Bool) : (s.dropCandidateIf w).res = s.res := by
  unfold State.dropCandidateIf; split <;> simp
@[simp] theorem State.frontArrival_res (l : Lane) (h : HeadId) : (s.frontArrival l h).res = s.res := by
  unfold State.frontArrival; (repeat' split) <;> simp
@[simp] theorem State.nearDoneTest_res (l : Lane) : (s.nearDoneTest l).res = s.res := by
  unfold State.nearDoneTest; (repeat' split) <;> simp
@[simp] theorem State.freeSlot_res (l : Lane) (k : SlotId) (o : Order) : (s.freeSlot l k o).res = s.res := by
  simp [State.freeSlot]
theorem State.foldl_res {α : Type} (f : State → α → State) (h : ∀ t a, (f t a).res = t.res) (as : List α)
    (t : State) : (as.foldl f t).res = t.res := by
  induction as generalizing t with
  | nil => rfl
  | cons a as ih => rw [List.foldl_cons, ih, h]
@[simp] theorem State.activate_res (l : Lane) (k : SlotId) (o : Order) : (s.activate l k o).res = s.res := by
  simp only [State.activate, State.nearDoneTest_res]
  rw [State.foldl_res _ (fun t a => by simp)]
  simp
@[simp] theorem State.leaveHalted_res (l : Lane) (k : SlotId) : (s.leaveHalted l k).res = s.res := by
  unfold State.leaveHalted; (repeat' split) <;> simp
@[simp] theorem State.clearHalted_res (l : Lane) (k : SlotId) : (s.clearHalted l k).res = s.res := by
  simp [State.clearHalted]
@[simp] theorem State.windDown_res (l : Lane) (k : SlotId) (w : JointOutcome) : (s.windDown l k w).res = s.res := by
  simp [State.windDown]
@[simp] theorem State.abandonMove_res (h : HeadId) : (s.abandonMove h).res = s.res := by
  unfold State.abandonMove; split <;> simp
@[simp] theorem State.setCoolUntil_res (l : Lane) (k : SlotId) (h : HeadId) (d : Nat) :
    (s.setCoolUntil l k h d).res = s.res := by unfold State.setCoolUntil; (repeat' split) <;> simp
@[simp] theorem State.joinHalted_res (l : Lane) (k : SlotId) (i : Nat) : (s.joinHalted l k i).res = s.res := by
  unfold State.joinHalted; dsimp only; split <;> simp
@[simp] theorem State.startSegment_res (c : ChannelId) (n : Nat) : (s.startSegment c n).res = s.res := by
  unfold State.startSegment; (repeat' split) <;> simp
@[simp] theorem State.enterHeating_res (c : ChannelId) : (s.enterHeating c).res = s.res := by
  unfold State.enterHeating; split <;> simp
@[simp] theorem State.recordSegment_res (c : ChannelId) (r : EndReason) : (s.recordSegment c r).res = s.res := by
  unfold State.recordSegment; split
  · rfl
  · rfl
@[simp] theorem State.judgeStay_res (c : ChannelId) (a : Attempt) : (s.judgeStay c a).res = s.res := by
  unfold State.judgeStay; split <;> simp
@[simp] theorem State.faultChannel_res (c : ChannelId) : (s.faultChannel c).res = s.res := by
  simp [State.faultChannel]
@[simp] theorem State.countGrant_res : s.countGrant.res = s.res := rfl
@[simp] theorem State.grant_res (p : GrantPlan) : (s.grant p).res = s.res := by
  unfold State.grant; dsimp only; split <;> simp
@[simp] theorem arbitrateRounds_res (n : Nat) : (arbitrateRounds n s).res = s.res := by
  induction n generalizing s with
  | zero => rfl
  | succ n ih => unfold arbitrateRounds; dsimp only; split <;> simp [ih]
@[simp] theorem State.arbitrate_res : s.arbitrate.res = s.res := by simp [State.arbitrate]
@[simp] theorem State.notePeak_res (c : ChannelId) (v : Nat) : (s.notePeak c v).res = s.res := rfl

variable {s}

theorem ResultsLaw.arbitrate (hs : ResultsLaw s) : ResultsLaw s.arbitrate := hs.of_res s.arbitrate_res

/-! ### Records -/

theorem readerPort_ne_lane {l m : Lane} (h : m ≠ l) (r : Reader) : readerPort m r ≠ lanePort l := by
  cases l <;> cases m <;> cases r <;> first
    | exact absurd rfl h
    | decide

/-- A ring changed and its reader told whether it holds records. -/
theorem ResultsLaw.setRing_report (hs : ResultsLaw s) (l : Lane) (x : Ring) (hr : x.reader = (s.ring l).reader) :
    ResultsLaw ((s.setRing l x).reportResults (readerPort l (s.ring l).reader) l (!x.records.isEmpty)) := by
  intro p m
  have h1 := hs p m
  simp only [State.reportResults, State.resultsHeld, State.isReader, State.modUnit_eq, State.unit_setUnit,
    State.ring_congr (State.setUnit_rings _ _ _), State.ring_setRing,
    State.unit_congr (State.setRing_units _ _ _)] at h1 ⊢
  by_cases hm : m = l <;> by_cases hp : p = readerPort l (s.ring l).reader
  · subst hm; simp [hp, hr]
  · subst hm; simp only [if_neg hp, h1, if_true, hr]; rw [beq_eq_false_iff_ne.mpr hp]; rfl
  · subst hp; simp only [if_true, if_neg hm, LaneTbl.get_set]; exact h1
  · simp only [if_neg hp, if_neg hm]; exact h1

/-- A ring changed whose emptiness and reader stay. -/
theorem ResultsLaw.setRing (hs : ResultsLaw s) (l : Lane) (x : Ring) (hr : x.reader = (s.ring l).reader)
    (he : x.records.isEmpty = (s.ring l).records.isEmpty) : ResultsLaw (s.setRing l x) := by
  intro p m
  have h1 := hs p m
  simp only [State.resultsHeld, State.isReader, State.ring_setRing, State.unit_congr (State.setRing_units _ _ _)] at h1 ⊢
  by_cases hm : m = l
  · subst hm; simp only [if_true, hr, he]; exact h1
  · simp only [if_neg hm]; exact h1

theorem ResultsLaw.appendRecord (hs : ResultsLaw s) (l : Lane) (r : Record) : ResultsLaw (s.appendRecord l r) := by
  have h3 : ((s.ring l).records ++ [r]).isEmpty = false := by simp
  unfold State.appendRecord
  dsimp only
  split
  · have h1 := hs.setRing_report l { s.ring l with records := (s.ring l).records ++ [r] } rfl
    simp only [h3, Bool.not_false] at h1
    exact h1
  · rename_i he
    exact hs.setRing l _ rfl (by rw [h3]; simpa using he)

theorem ResultsLaw.writeRecord (hs : ResultsLaw s) (l : Lane) (r : Record) : ResultsLaw (s.writeRecord l r) :=
  (hs.of_res (s.unreserve_res l r.size)).appendRecord l r

theorem ResultsLaw.finishOrder (hs : ResultsLaw s) (l : Lane) (k : SlotId) (o : Order) (kind : CompletionKind) :
    ResultsLaw (s.finishOrder l k o kind) :=
  (hs.writeRecord l (.completion (s.completionRecord l k o kind))).of_res (by simp [State.finishOrder])

theorem ResultsLaw.activationRounds (n : Nat) (l : Lane) (hs : ResultsLaw s) :
    ResultsLaw (Sys2Proof.Machine.activationRounds n l s) := by
  induction n generalizing s with
  | zero => exact hs
  | succ n ih =>
    unfold Sys2Proof.Machine.activationRounds
    split
    · exact hs
    · rename_i k o _
      have h1 := hs.of_res (s.activate_res l k o)
      dsimp only
      split
      · exact h1
      · split
        · exact ih (h1.finishOrder _ _ _ _)
        · exact h1

theorem ResultsLaw.tryActivation (hs : ResultsLaw s) (l : Lane) : ResultsLaw (s.tryActivation l) :=
  hs.activationRounds 4 l

theorem ResultsLaw.completionCheck (hs : ResultsLaw s) (l : Lane) : ResultsLaw (s.completionCheck l) := by
  unfold State.completionCheck
  split
  · exact hs
  · split
    · exact ((hs.finishOrder _ _ _ _).of_res (State.dropCandidate_res _)).tryActivation l
    · exact hs

theorem ResultsLaw.skipHead (hs : ResultsLaw s) (l : Lane) (h : HeadId) : ResultsLaw (s.skipHead l h) := by
  unfold State.skipHead
  split
  · exact hs
  · dsimp only
    split
    · refine ResultsLaw.completionCheck (hs.of_res ?_) l
      simp
    · exact hs

theorem ResultsLaw.setHealth (hs : ResultsLaw s) (h : HeadId) (f : HealthFlag) : ResultsLaw (s.setHealth h f) := by
  unfold State.setHealth
  dsimp only
  split
  · exact hs
  · split
    · refine ResultsLaw.skipHead (hs.of_res ?_) _ _
      simp
    · exact hs.of_res (by simp)

theorem ResultsLaw.takeResult (hs : ResultsLaw s) (a : Attempt) (r : AttemptResult) : ResultsLaw (s.takeResult a r) := by
  unfold State.takeResult
  split
  · exact hs
  · split
    · exact hs
    · dsimp only
      refine ResultsLaw.completionCheck (hs.of_res ?_) _
      rw [State.nearDoneTest_res]
      (repeat' split) <;> simp

theorem ResultsLaw.interruptLane (hs : ResultsLaw s) (l : Lane) : ResultsLaw (s.interruptLane l) := by
  unfold State.interruptLane
  dsimp only
  split
  · exact hs.of_res (by simp)
  · rename_i k o _
    exact (hs.finishOrder l k { o with joints := o.joints.map Joint.interrupt } .interrupted).of_res (State.setOm_res _ _ _)

theorem ResultsLaw.recordAttempt (hs : ResultsLaw s) (c : ChannelId) (a : Attempt) (r : AttemptResult) :
    ResultsLaw (s.recordAttempt c a r) := by
  unfold State.recordAttempt
  split
  · split
    · exact hs.of_res (by simp)
    · exact hs.writeRecord _ _
  · exact hs.of_res (by simp)

theorem ResultsLaw.closeAttempt (hs : ResultsLaw s) (c : ChannelId) (r : AttemptResult) (d : ChannelEnd) :
    ResultsLaw (s.closeAttempt c r d) := by
  unfold State.closeAttempt
  split
  · exact hs
  · rename_i a _
    have h1 := hs.recordAttempt c a r
    dsimp only
    cases d
    · exact h1.of_res (by simp)
    · exact h1.of_res (by simp)

theorem ResultsLaw.skipIfFlagged (hs : ResultsLaw s) (a : Attempt) : ResultsLaw (s.skipIfFlagged a) := by
  unfold State.skipIfFlagged
  split
  · exact hs.skipHead _ _
  · exact hs

theorem ResultsLaw.endAttempt (hs : ResultsLaw s) (c : ChannelId) (r : AttemptResult) (d : ChannelEnd) :
    ResultsLaw (s.endAttempt c r d) := by
  unfold State.endAttempt
  split
  · exact hs
  · rename_i a _
    have h1 := (hs.closeAttempt c r d).takeResult a r
    dsimp only
    split
    · rename_i f _
      exact ((h1.setHealth a.head f).skipIfFlagged a).of_res (by simp)
    · exact (h1.skipIfFlagged a).of_res (by simp)

theorem ResultsLaw.cutAttempt (hs : ResultsLaw s) (c : ChannelId) (r : AttemptResult) (d : ChannelEnd) :
    ResultsLaw (s.cutAttempt c r d) := (hs.of_res (s.recordSegment_res c .cut)).endAttempt c r d

theorem ResultsLaw.segmentEnd (hs : ResultsLaw s) (c : ChannelId) (r : EndReason) : ResultsLaw (s.segmentEnd c r) := by
  unfold State.segmentEnd
  have h1 := hs.of_res (s.recordSegment_res c r)
  (repeat' split) <;> first
    | exact hs
    | exact h1.endAttempt _ _ _
    | exact h1.of_res (State.startSegment_res _ _ _)

/-! ### Quench and reset -/

theorem ResultsLaw.interruptAttempt (hs : ResultsLaw s) (c : ChannelId) : ResultsLaw (s.interruptAttempt c) := by
  unfold State.interruptAttempt
  dsimp only
  split
  · exact (hs.of_res (s.recordSegment_res c .cut)).closeAttempt _ _ _
  · exact hs.closeAttempt _ _ _

theorem ResultsLaw.foldl {f : State → ChannelId → State} (h : ∀ t c, ResultsLaw t → ResultsLaw (f t c)) :
    ∀ (cs : List ChannelId) (t : State), ResultsLaw t → ResultsLaw (cs.foldl f t)
  | [], _, ht => ht
  | c :: cs, t, ht => ResultsLaw.foldl h cs (f t c) (h t c ht)

theorem ResultsLaw.stopChannel (hs : ResultsLaw s) (c : ChannelId) : ResultsLaw (s.stopChannel c) := by
  have h1 := hs.interruptAttempt c
  unfold State.stopChannel
  dsimp only
  split
  · exact h1
  · exact h1.of_res (by simp)

theorem ResultsLaw.stopWork (hs : ResultsLaw s) : ResultsLaw s.stopWork := by
  have h1 := ResultsLaw.foldl (f := State.stopChannel) (fun t c ht => ht.stopChannel c) allChannels s hs
  unfold State.stopWork
  generalize allChannels.foldl State.stopChannel s = u at h1 ⊢
  exact ((h1.of_res (by simp)).interruptLane .a).interruptLane .b

theorem ResultsLaw.quench (hs : ResultsLaw s) (e : FaultEntry) : ResultsLaw (s.quench e) := by
  have h1 := (hs.of_res (s.fillLogs_res e true)).stopWork
  unfold State.quench
  generalize (s.fillLogs e true).stopWork = u at h1 ⊢
  exact h1.of_res (by simp)

theorem ResultsLaw.quenchCause (hs : ResultsLaw s) (e : FaultEntry) : ResultsLaw (s.quenchCause e) := by
  unfold State.quenchCause
  split
  · exact hs
  · exact hs.quench e
  · exact hs.quench e
  · exact hs.quench e
  · exact hs.of_res (s.fillLogs_res e true)

theorem ResultsLaw.containChannel (hs : ResultsLaw s) (cause : AbortCause) (c : ChannelId) :
    ResultsLaw (s.containChannel cause c) := by
  unfold State.containChannel
  split
  · exact hs
  · exact hs.of_res (by simp)
  · split
    · exact hs.endAttempt _ _ _
    · exact hs.of_res (by simp)
  · exact hs.cutAttempt _ _ _
  · exact hs
  · exact hs.of_res (by simp)

theorem ResultsLaw.channelFault (hs : ResultsLaw s) (cls : CauseClass) (cause : AbortCause) (r : Response)
    (c : ChannelId) : ResultsLaw (s.channelFault cls cause r c) := by
  unfold State.channelFault
  dsimp only
  split
  · exact hs
  · split
    · exact hs.quenchCause _
    · exact (hs.containChannel cause c).of_res (State.containError_res _ _)

theorem ResultsLaw.headCoolantFault (hs : ResultsLaw s) (h : HeadId) (c : ChannelId) :
    ResultsLaw (s.headCoolantFault h c) := by
  unfold State.headCoolantFault
  dsimp only
  split
  · exact (hs.cutAttempt _ _ _).of_res (State.containError_res _ _)
  · exact (hs.quenchCause _).setHealth _ _

theorem ResultsLaw.standingAlarms (hs : ResultsLaw s) : ResultsLaw s.standingAlarms := by
  have h1 : ∀ (t : State) (i : CabinetInput), ResultsLaw t → ResultsLaw (t.standing i) := by
    intro t i ht
    unfold State.standing
    split
    · exact ht.quenchCause _
    · exact ht
  unfold State.standingAlarms
  exact h1 _ _ (h1 _ _ (h1 _ _ hs))

/-! ### What the ring commands and LANE_RESET do -/

/-- The oldest records leave the ring; the mark goes with the last one. -/
theorem ResultsLaw.removeOldest (hs : ResultsLaw s) (l : Lane) (n : Nat) : ResultsLaw (s.removeOldest l n) := by
  unfold State.removeOldest
  simp only [State.modRing_eq, State.ring_setRing, if_true]
  split
  · rename_i he
    have h1 := hs.setRing_report l { s.ring l with records := (s.ring l).records.drop n } rfl
    simp only [he, Bool.not_true] at h1
    exact h1
  · rename_i he
    refine hs.setRing l _ rfl ?_
    cases hr : (s.ring l).records with
    | nil => simp [hr] at he
    | cons a as => simpa [hr] using he

theorem ResultsLaw.emptyRing (hs : ResultsLaw s) (l : Lane) : ResultsLaw (s.emptyRing l) :=
  hs.setRing_report l { s.ring l with records := [], reserved := 0 } rfl

/-- The mark leaves the old reader and, with records stored, stands on the new one. -/
theorem ResultsLaw.changeReader (hs : ResultsLaw s) (l : Lane) (r : Reader) : ResultsLaw (s.changeReader l r) := by
  intro p m
  have h1 := hs p m
  unfold State.changeReader
  dsimp only
  split
  · rename_i he
    simp only [State.reportResults, State.resultsHeld, State.isReader, State.modUnit_eq, State.modRing_eq,
      State.unit_setUnit, State.ring_congr (State.setUnit_rings _ _ _), State.ring_setRing,
      State.unit_congr (State.setRing_units _ _ _)] at h1 ⊢
    by_cases hm : m = l <;> by_cases hp : p = readerPort l (s.ring l).reader
    · subst hm; simp [hp, he]
    · subst hm; simp only [if_neg hp, h1, he, if_true]; simp
    · subst hp; simp only [if_true, if_neg hm, LaneTbl.get_set]; exact h1
    · simp only [if_neg hp, if_neg hm]; exact h1
  · rename_i he
    have he2 : (s.ring l).records.isEmpty = false := by simpa using he
    simp only [State.reportResults, State.resultsHeld, State.isReader, State.modUnit_eq, State.modRing_eq,
      State.unit_setUnit, State.ring_congr (State.setUnit_rings _ _ _), State.ring_setRing,
      State.unit_congr (State.setRing_units _ _ _)] at h1 ⊢
    by_cases hm : m = l
    · subst hm
      by_cases hn : p = readerPort m r
      · subst hn; simp [he2]
      · simp only [if_neg hn, if_true]
        rw [beq_eq_false_iff_ne.mpr hn]
        by_cases hp : p = readerPort m (s.ring m).reader
        · subst hp; simp
        · simp only [if_neg hp, h1]; rw [beq_eq_false_iff_ne.mpr hp]
    · have h3 : ∀ (u : EventUnit) (b : Bool), (u.results.set l b).get m = u.results.get m := fun u b => by simp [hm]
      simp only [if_neg hm]
      rw [← h1]
      (repeat' split) <;> simp_all

/-- With the ring of its lane empty, a lane unit has no mark to lose. -/
theorem ResultsLaw.clearUnit (hs : ResultsLaw s) (l : Lane) (h : (s.ring l).records = []) :
    ResultsLaw (s.modUnit (lanePort l) EventUnit.clear) := by
  intro p m
  have h1 := hs p m
  simp only [State.resultsHeld, State.isReader, State.modUnit_eq, State.unit_setUnit,
    State.ring_congr (State.setUnit_rings _ _ _)] at h1 ⊢
  by_cases hp : p = lanePort l
  · subst hp
    simp only [if_true]
    have h2 : (EventUnit.clear (s.unit (lanePort l))).results.get m = false := by cases m <;> rfl
    rw [h2]
    by_cases hm : m = l
    · subst hm; simp [h]
    · rw [beq_eq_false_iff_ne.mpr (fun e => readerPort_ne_lane hm _ e.symm)]; rfl
  · simp only [if_neg hp]; exact h1

end Sys2Proof.Machine
end

