-- ==== Sys2Proof/WellFormed.lean ====
section
/-! DEFINITION. Which commands can arise: the events the manual says cannot come are ruled out. A payload of the wrong
length or with a value out of range is a request all the same, and is refused by its meaning (R177). -/

namespace Sys2Proof

/-- A payload that a length byte can give (R173). -/
def payloadOk (p : List Byte) : Bool := decide (p.length ≤ Config.maxPayload)

/-- A RESUME whose payload does not carry the other row's decision (log entry 25). -/
def resumeOk (other : Machine.Decision) (p : List Byte) : Bool :=
  payloadOk p && (p.length != 1 || Machine.decisionOf (Machine.byteAt p 0) != some other)

/-- An attempt name within the ranges of R61 and R88. -/
def attemptNameOk (n : AttemptName) (segment : Nat) : Bool :=
  decide (n.joint < 16) && decide (1 ≤ n.number) && decide (n.number ≤ 15) && decide (1 ≤ segment) &&
    decide (segment ≤ 8)

/-- The commands that can arise. -/
def wellFormed : Instr → Bool
  | .powerOn => true
  | .frameDiscard _ frame byteError => (Machine.judgeFrame frame byteError).isSome
  | .frameDroppedOverrun _ => true
  | .answerSent _ => true
  | .readStatus _ _ p => payloadOk p
  | .pollEvent _ _ p => payloadOk p
  | .setAttention _ _ p => payloadOk p
  | .postOrder _ _ p => payloadOk p
  | .release _ _ p => payloadOk p
  | .discard _ _ p => payloadOk p
  | .abortOrder _ _ p => payloadOk p
  | .setLanePolicy _ _ p => payloadOk p
  | .laneReset _ _ p => payloadOk p
  | .resumeRetry _ _ p => resumeOk .skip p
  | .resumeSkip _ _ p => resumeOk .retry p
  | .cue _ _ p => payloadOk p
  | .writeRecipe _ _ p => payloadOk p
  | .clearRecipe _ _ p => payloadOk p
  | .readRecipe _ _ p => payloadOk p
  | .writeBinding _ _ p => payloadOk p
  | .clearBinding _ _ p => payloadOk p
  | .setFamily _ _ p => payloadOk p
  | .readBinding _ _ p => payloadOk p
  | .writeHead _ _ p => payloadOk p
  | .maskHeads _ _ p => payloadOk p
  | .unmaskHeads _ _ p => payloadOk p
  | .clearHeadHealth _ _ p => payloadOk p
  | .readHead _ _ p => payloadOk p
  | .setBudget _ _ p => payloadOk p
  | .restoreChannel _ _ p => payloadOk p
  | .readResults _ _ p => payloadOk p
  | .ackResults _ _ p => payloadOk p
  | .setReader _ _ p => payloadOk p
  | .setResponse _ _ p => payloadOk p
  | .readErrorLog _ _ p => payloadOk p
  | .clearErrors _ _ p => payloadOk p
  | .cabinetReset _ _ p => payloadOk p
  | .cabinetSetup _ _ p => payloadOk p
  | .enterProof _ _ p => payloadOk p
  | .leaveProof _ _ p => payloadOk p
  | .pyrometerReading _ reading => reading.all fun v => decide (v ≤ 1200)
  | .sensorTimerExpiry _ => true
  | .coolantSwitchReport _ _ => true
  | .cabinetInputChange _ _ => true
  | .inverterFaultReport _ => true
  | .matrixFaultReport _ => true
  | .energyReport _ n segment => attemptNameOk n segment
  | .segmentTimerExpiry _ => true
  | .moveCompletion _ _ _ => true
  | .activation _ => true
  | .candidateNaming => true
  | .grant => true
  | .deadlineExpiry _ => true
  | .coolUntilExpiry _ => true
  | .settlingExpiry => true
  | .unknownRequestCode _ code _ p => payloadOk p && !Machine.catalogue.contains code

end Sys2Proof
end

