-- ==== Sys2Proof/Tests/Slice0.lean ====
section
/-! SUPPORT. The model's own tests: the checks of WellFormed refuse ill-formed commands, the manual's worked values come
out, and for every statement with hypotheses a state and operands that meet them. -/

namespace Sys2Proof.Tests

open Sys2Proof.Machine

-- One theorem after the other: evaluated side by side they would each hold a thread while they wait for the kernel.
set_option Elab.async false

/-! ## WellFormed -/

theorem test_wf_refuses_payload_over_250 : wellFormed (.readStatus .laneA 0 (List.replicate 251 0)) = false := by
  decide +kernel

theorem test_wf_accepts_payload_of_250 : wellFormed (.readStatus .laneA 0 (List.replicate 250 0)) = true := by
  decide +kernel

theorem test_wf_refuses_discard_of_a_good_frame :
    wellFormed (.frameDiscard .laneA (requestFrame 0x01 7 []) false) = false := by decide +kernel

theorem test_wf_refuses_resume_with_the_other_decision :
    wellFormed (.resumeRetry .laneA 0 [1]) = false ∧ wellFormed (.resumeSkip .laneA 0 [0]) = false := by decide +kernel

theorem test_wf_refuses_reading_above_1200 :
    wellFormed (.pyrometerReading 0 (some 1201)) = false ∧ wellFormed (.pyrometerReading 0 (some 1200)) = true := by
  decide +kernel

theorem test_wf_refuses_energy_report_out_of_range :
    let report (joint number segment : Nat) := wellFormed (.energyReport 0 ⟨.a, 0, joint, 0, 0, number, 0⟩ segment)
    report 16 1 1 = false ∧ report 0 0 1 = false ∧ report 0 16 1 = false ∧ report 0 1 0 = false ∧ report 0 1 9 = false ∧
    report 15 15 8 = true := by decide +kernel

theorem test_wf_refuses_unknown_code_of_the_catalogue : wellFormed (.unknownRequestCode .laneA 0x10 0 []) = false := by
  decide +kernel

/-! ## Worked values of the manual -/

/-- R173: the check over the nine bytes 0x31 to 0x39. -/
theorem test_check_of_nine_bytes :
    checkOf [0x31, 0x32, 0x33, 0x34, 0x35, 0x36, 0x37, 0x38, 0x39] = 0x29B1 := by decide +kernel

/-- The worked groups of 2.6 (R38). -/
theorem test_groups_of_type_codes : groupOf 0x0CC807002D5B = 35 ∧ groupOf 0x0CC807002D9B = 35 := by decide +kernel

/-- R16: 12 of 16 on ten joints is eight, 15 of 16 on one joint is one. -/
theorem test_near_done_counts : nearDoneCount 12 10 = 8 ∧ nearDoneCount 15 1 = 1 := by decide +kernel

/-- R184: the WITHDRAWN record of a three-joint order in slot A1. -/
theorem test_withdrawn_record_words :
    (CompletionRecord.mk .a 1 0x1234 5 .withdrawn false 0x00010002
      [(.notRun, 0), (.notRun, 0), (.notRun, 0)]).words =
      [0xA498, 0x1234, 3, 1, 2, 0, 0x0D00, 0x0D00, 0x0D00] := by decide +kernel

/-- R117: the record of an attempt that ended before HEATING has the full size of its recipe and no entry. -/
theorem test_no_load_record_is_14_words :
    (JointRecord.mk .a 0 7 2 3 1 6 1 .noLoad 0 0 0 false 9 3 []).words =
      [0x3804, 7, 0x2326, 0x4000, 0, 0, 0, 9, 0, 0, 0, 0, 0, 0] := by decide +kernel

/-- R64: the search runs from the head after the pointer, with wrap. -/
theorem test_search_order_wraps : (searchOrder 14).take 3 = [15, 0, 1] := by decide +kernel

/-- R173, R174: a good frame passes, and each fault is named by the first test that fails. -/
theorem test_frames_are_judged :
    judgeFrame (requestFrame 0x11 7 []) false = none ∧ judgeFrame (requestFrame 0x11 7 []) true = some .byteError ∧
    judgeFrame [0xC5, 2, 0x11, 7, 0, 0] false = some .startMark ∧ judgeFrame [0xC6, 1, 0x11, 0, 0] false = some .length ∧
    judgeFrame [0xC6, 2, 0x11, 7, 0, 0] false = some .check := by decide +kernel

/-! ## Small states -/

def segments : List Segment := [⟨100, 500, some 400, some 50, true⟩, ⟨50, 200, none, none, false⟩]

def recipe0 : Recipe := { segments := segments, overtemp := 900, postDwell := 0, allowance := 1, peak := 100 }

def joint (h : HeadId) (st : JointState) (n : Nat) (out : Option JointOutcome) : Joint :=
  { head := h, cls := 0, cue := false, recipe := 0, state := st, attempts := n, outcome := out }

def order (st : OrderState) (js : List Joint) : Order :=
  { tag := 7, code := 5, deadline := 500, joints := js, state := st, recipes := [0], late := false, discard := false,
    abort := false, nearDone := false, proof := false }

def binding0 : Binding := { code := 5, classMap := tabulate fun i => if i.val = 0 then some 0 else if i.val = 1 then some 1 else none }

/-- LIVE, two channels IDLE, H0 and H1 on lane A unmasked, recipe 0 DEFINED, binding 0 holding code 5. -/
def live : State :=
  { State.reset with
    cabinet := { mode := .live, setup := some ⟨2, 60, 30, 500⟩, settlingTimer := none, timeBase := some 100,
                 dummyLoad := false }
    recipes := State.reset.recipes.set 0 { recipe := some recipe0, refs := 0 }
    bindings := State.reset.bindings.set 0 (some binding0)
    heads := tabulate fun h =>
      { HeadRec.reset with lane := if h.val < 2 then some .a else none, masked := decide (1 < h.val) }
    arbiter := { Arbiter.reset with budget := 60 }
    channels := tabulate fun c => { ChannelRec.reset with state := if c.val < 2 then .idle else .offline } }

def withMode (m : Mode) (s : State) : State := s.setCabinet { s.cabinet with mode := m }

/-- The state with an order in slot A0. -/
def withOrder (o : Order) (s : State) : State := s.setSlot .a 0 (some o)

def attempt0 : Attempt :=
  { lane := .a, slot := 0, joint := 0, head := 0, recipe := 0, number := 1, peak := 100, abandoned := false,
    proof := false, serial := 0 }

def heat0 : Heating :=
  { segment := 1, segTimer := 300, segStart := 50, energy := 0, peakTemp := 20, start := 50, entries := [] }

/-- H0's joint READY and H1's joint READY in a RUNNING order. -/
def ready : State := withOrder (order .running [joint 0 .ready 0 none, joint 1 .ready 0 none]) live

/-- The same with H0 the candidate. -/
def named : State := ready.setArbiter { ready.arbiter with candidate := some 0 }

/-- C0 in TRANSFER for H0's joint. -/
def moving : State :=
  (withOrder (order .running [joint 0 .transfer 1 none, joint 1 .pending 0 none]) live).setChan 0
    { state := .transfer, parked := some 0, attempt := some attempt0, faultHeld := false, moveTimer := some 30,
      heat := none }

/-- C0 heating H0's joint, with its power committed and its record reserved. -/
def heating : State :=
  let s := withOrder (order .running [joint 0 .heating 1 none, joint 1 .pending 0 none]) live
  let s1 := s.setChan 0 { state := .heating, parked := some 0, attempt := some attempt0, faultHeld := false,
                          moveTimer := none, heat := some heat0 }
  (s1.setHead 0 { s1.head 0 with connected := some 0, sensorTimer := some 20 }).setRing .a
    { records := [], reserved := 20, reader := .lane }

/-- A HALTED order with joint 0 in the list. -/
def halted (n : Nat) : State :=
  let s := withOrder (order .halted [joint 0 .halted n none, joint 1 .pending 0 none]) live
  s.setOm .a { s.om .a with halted := [0] }

/-- A completion record. -/
def record0 : Record := .completion (CompletionRecord.mk .a 0 7 5 .normal false 9 [(.good, 1)])

/-- Lane A's ring with n records, read from its lane port. -/
def stored (n : Nat) : State := live.setRing .a { records := List.replicate n record0, reserved := 0, reader := .lane }

/-- A free port's state with a request in service. -/
def busyPort : State := live.setPort .laneA { live.port .laneA with inService := true }

/-- The state a command leaves, and the state itself where it stops (none does). -/
def after (c : Instr) (s : State) : State :=
  match exec c s with
  | .next t => t
  | .fault _ => s
  | .refused _ => s

/-! ## The hypotheses of the statements are met -/

theorem test_witness_EmptyQueueTicksOneMs : State.reset.pending = [] := rfl

theorem test_witness_ServiceDropsFramesUntilAnswerIsSent :
    (requestOf (.release .laneA 1 []) = some ⟨.laneA, 0x11, 1, []⟩ ∧ (busyPort.port .laneA).inService = true ∧
      (busyPort.port .laneA).linkFault = none) ∧
    (live.port .laneA).inService = false ∧
    (beNat (be2 (checkOf [2, 1, 7]).toNat) = (checkOf (BitVec.ofNat 8 2 :: [1, 7])).toNat ∧
      ([1, 7] : List Byte).length = 2 ∧ (be2 (checkOf [2, 1, 7]).toNat).length = 2) := by decide +kernel

theorem test_witness_BadFramesAreDiscarded :
    (live.port .laneA).inService = false ∧ (0xC5 : Byte) ≠ 0xC6 ∧
    (([0xC6, 1, 0, 0, 0] : List Byte).length < 6 ∧ (([0xC6, 1, 0, 0, 0] : List Byte).getD 1 0).toNat < 2) ∧
    252 < (([0xC6, 253, 0, 0, 0, 0] : List Byte).getD 1 0).toNat ∧
    (([0xC6, 2, 1, 7, 0, 0] : List Byte) = 0xC6 :: ([2, 1, 7] ++ [0, 0]) ∧
      beNat [0, 0] ≠ (checkOf [2, 1, 7]).toNat) := by decide +kernel

theorem test_witness_CodeLengthAndPortAreChecked :
    (0x04 : Byte) ∉ catalogue ∧ live.takes ⟨.laneA, 0x04, 1, []⟩ ∧ live.takes ⟨.laneA, 0x11, 1, [0]⟩ ∧
    ([0] : List Byte).length ≠ (⟨.laneA, 0x11, 1, [0]⟩ : Request).neededLength ∧
    live.takes ⟨.supervisor, 0x11, 1, []⟩ ∧ (⟨.supervisor, 0x11, 1, []⟩ : Request).neededLength = 0 ∧
    (⟨.supervisor, 0x11, 1, []⟩ : Request).mayBeSent = false ∧
    (⟨.laneA, 0x63, 1, []⟩ : Request).mayBeSent = false := by decide +kernel

theorem test_witness_RefusedRequestsChangeNothingElse :
    requestOf (.cue .laneB 1 [0]) = some ⟨.laneB, 0x17, 1, [0]⟩ ∧ live.takes ⟨.laneB, 0x17, 1, [0]⟩ := by decide +kernel

theorem test_witness_ReadStatusAnswersAndClearsLinkFault : live.takes ⟨.laneA, 0x01, 1, []⟩ := by decide +kernel

theorem test_witness_ReadsChangeNothing :
    live.takes ⟨.laneA, 0x22, 1, be1 31⟩ ∧ live.takes ⟨.supervisor, 0x26, 1, be1 23⟩ ∧ live.takes ⟨.laneA, 0x34, 1, be1 15⟩ ∧
    live.takes ⟨.supervisor, 0x61, 1, []⟩ ∧ live.takes ⟨.laneA, 0x50, 1, [0, 1]⟩ ∧ live.takes ⟨.laneA, 0x50, 1, [0, 8]⟩ ∧
    Port.laneA = readerPort .a (live.ring .a).reader ∧ Port.laneB ≠ readerPort .a (live.ring .a).reader := by
  decide +kernel

theorem test_witness_PollReportsHighestKind :
    let u := live.setUnit .laneA { live.unit .laneA with slotFree := some Context.none }
    let v := live.setUnit .laneA { live.unit .laneA with orderDone := some Context.none, slotFree := some Context.none }
    let w := live.setUnit .laneA { live.unit .laneA with halted := true }
    (live.takes ⟨.laneA, 0x02, 1, []⟩ ∧ ∀ k ∈ kindsOf .laneA, (live.unit .laneA).isPending k = false) ∧
    ((u.unit .laneA).isPending (.posted .slotFree) = true ∧
      ∀ k ∈ kindsOf .laneA, (u.unit .laneA).isPending k = true → eventCode .laneA k ≤ 1) ∧
    ((v.unit .laneA).isPending (.posted .orderDone) = true ∧
      ∀ k ∈ kindsOf .laneA, (v.unit .laneA).isPending k = true → eventCode .laneA k ≤ 4) ∧
    ((w.unit .laneA).isPending .orderHalted = true ∧
      ∀ k ∈ kindsOf .laneA, (w.unit .laneA).isPending k = true → eventCode .laneA k ≤ 7) := by decide +kernel

theorem test_witness_AttentionEnableAndLine :
    live.takes ⟨.laneA, 0x03, 1, be1 (bit true)⟩ ∧ live.takes ⟨.laneA, 0x03, 1, [2]⟩ ∧ 1 < (2 : Byte).toNat := by
  decide +kernel

/-- A POST_ORDER payload: tag 7, code 5, one joint with the head and the class byte given. -/
def post (deadline : Nat) (h cls : Byte) : List Byte := [0, 7, 0, 0, 0, 0, 0, 5] ++ be2 deadline ++ [1, h, cls]

theorem test_witness_PostOrderChecksInOrder :
    let ok := post 100 0 0
    let other : List Byte := [0, 7, 0, 0, 0, 0, 0, 6, 0, 0, 1, 0, 0]
    live.takes ⟨.laneA, 0x10, 1, ok⟩ ∧ ok.length = 11 + 2 * byteAt ok 10 ∧
    (byteAt (post 99 0 0) 10 = 1 ∧ (parsePost (post 99 0 0)).deadline = 99) ∧
    (parsePost (post 60000 0 0)).deadline = 60000 ∧ byteAt (post 60001 16 0) 11 = 16 ∧
    (withMode .unconfigured live).mode = .unconfigured ∧ (withMode .quenched live).mode = .quenched ∧
    ready.order .a (ready.om .a).postPtr ≠ none ∧ live.order .a (live.om .a).postPtr = none ∧
    live.resolve .a (parsePost other).code = none ∧ live.resolve .a (parsePost ok).code = some binding0 ∧
    (∃ j ∈ (parsePost (post 100 0 2)).joints, binding0.classMap.get j.cls = none) ∧
    (∃ j ∈ (parsePost (post 100 0 1)).joints, (live.recipes.get (recipeOf binding0 j)).recipe = none) ∧
    (∃ j ∈ (parsePost (post 100 2 0)).joints, (live.head (Fin.ofNat 16 j.head)).lane ≠ some .a) := by decide +kernel

theorem test_witness_PostOrderStoresOrder :
    let x := post 100 1 0x80
    portLane .laneA = some .a ∧ live.takes ⟨.laneA, 0x10, 1, x⟩ ∧ x.length = 11 + 2 * byteAt x 10 ∧
    (parsePost x).valuesOk = true ∧ live.mode = .live ∧ live.order .a (live.om .a).postPtr = none ∧
    live.resolve .a (parsePost x).code = some binding0 ∧
    (∀ j ∈ (parsePost x).joints, (binding0.classMap.get j.cls).isSome) ∧
    (∀ j ∈ (parsePost x).joints, (live.recipes.get (recipeOf binding0 j)).recipe.isSome) ∧
    (∀ j ∈ (parsePost x).joints, (live.head (Fin.ofNat 16 j.head)).lane = some .a) := by decide +kernel

theorem test_witness_TypeCodesResolveByTheirSteps :
    let fam : State := { live with family := 1 <<< 6, defaults := { a := some 0, b := some 1 } }
    (live.bindings.get 0 = some binding0 ∧ binding0.code = 5) ∧
    (∀ n, ∀ b ∈ fam.bindings.get n, b.code ≠ 6) ∧
    (fam.family.getLsbD (groupOf 6) = true ∧ fam.defaults.get .a = some 0 ∧ fam.bindings.get 0 = some binding0) ∧
    live.family.getLsbD (groupOf 6) = false ∧ fam.bindings.get 1 = none := by decide +kernel

theorem test_witness_ReleaseRaisesCountUpToPosted :
    let s := withOrder (order .posted [joint 0 .pending 0 none]) live
    live.takes ⟨.laneA, 0x11, 1, []⟩ ∧ (withMode .unconfigured live).mode = .unconfigured ∧
    (withMode .quenched live).mode = .quenched ∧ (live.postedOrders .a).length ≤ (live.om .a).released ∧
    (s.om .a).released < (s.postedOrders .a).length ∧ s.mode = .live := by decide +kernel

theorem test_witness_ActivationStartsOldestPostedOrder :
    let o := order .posted [joint 0 .pending 0 none]
    let s := (withOrder o live).modOm .a fun om => { om with released := 1 }
    s.active .a = none ∧ 0 < (s.om .a).released ∧ s.mode = .live ∧ s.oldestPosted .a = some (0, o) ∧
    6 + o.joints.length ≤ (s.ring .a).free ∧ (withMode .proof s).mode = .proof := by decide +kernel

/-- A cue joint at the front of H0, with its latch clear or set, one behind it, and a joint on a flagged head. -/
theorem test_witness_ActivationStartsOldestPostedOrder_fronts :
    let cue : Joint := { joint 0 .pending 0 none with cue := true }
    let s (latch : Bool) : State :=
      ((withOrder (order .posted [cue, joint 0 .pending 0 none, joint 1 .pending 0 none]) live).setHead 0
        { live.head 0 with cueLatch := latch }).setHead 1 { live.head 1 with health := ⟨true, false, false⟩ }
    let t (latch : Bool) := ((s latch).modOm .a fun om => { om with released := 1 }).tryActivation .a
    let st (latch : Bool) (i : Nat) := ((t latch).order .a 0).bind fun o => (o.joints[i]?).map (·.state)
    (st false 0 = some .cueWait ∧ ((t false).head 0).cueLatch = false) ∧
    (st true 0 = some .ready ∧ ((t true).head 0).cueLatch = false) ∧ st true 1 = some .pending ∧ st true 2 = some .done := by
  decide +kernel

/-- R8: with every head flagged the order completes at its activation, with NEAR_DONE, and the next one activates. -/
theorem test_activation_completes_a_skipped_order :
    let o := order .posted [joint 1 .pending 0 none]
    let flagged := live.setHead 1 { live.head 1 with health := ⟨true, false, false⟩ }
    let s := ((withOrder o flagged).setSlot .a 1 (some (order .posted [joint 0 .pending 0 none]))).modOm .a fun om =>
      { om with released := 2, threshold := 8 }
    let t := s.tryActivation .a
    (s.active .a = none ∧ s.oldestPosted .a = some (0, o) ∧ (s.activate .a 0 o).active .a ≠ none) ∧
    ((t.order .a 0).isNone ∧ (t.order .a 1).any (fun x => x.state == .running) ∧ (t.om .a).released = 0) ∧
    (t.ring .a).records.length = 1 ∧ (t.unit .laneA).nearDone.isSome ∧ (t.unit .laneA).orderDone.isSome := by
  decide +kernel

theorem test_witness_CompletionFreesSlotWithRecord :
    let o := order .running [joint 0 .done 1 (some .good)]
    (withOrder o live).active .a = some (0, o) ∧ o.allDone = true ∧
    ready.active .a = some (0, order .running [joint 0 .ready 0 none, joint 1 .ready 0 none]) ∧
    (order .running [joint 0 .ready 0 none, joint 1 .ready 0 none]).allDone = false := by decide +kernel

theorem test_witness_NearDoneIsPostedOnce :
    let o := order .running [joint 0 .done 1 (some .good), joint 1 .ready 0 none]
    let s (n : Nat) := (withOrder o live).modOm .a fun om => { om with threshold := n }
    (s 8).active .a = some (0, o) ∧ 0 < ((s 8).om .a).threshold ∧ o.nearDone = false ∧
    ((s 8).om .a).threshold * o.joints.length = 16 * (o.joints.filter fun j => j.outcome.isSome).length ∧
    ¬ ((s 9).om .a).threshold * o.joints.length ≤ 16 * (o.joints.filter fun j => j.outcome.isSome).length ∧
    ¬ 0 < ((s 0).om .a).threshold := by decide +kernel

theorem test_witness_DiscardWindsOrderDown :
    portLane .laneA = some .a ∧ live.takes ⟨.laneA, 0x13, 1, []⟩ ∧ live.mode = .live ∧ live.active .a = none ∧
    ready.takes ⟨.laneA, 0x13, 1, []⟩ ∧ (ready.active .a).any (fun x => !x.2.discard) ∧
    ((withOrder { order .running [] with discard := true } live).active .a).any (fun x => x.2.discard) := by
  decide +kernel

theorem test_witness_AbortCutsActiveOrder :
    heating.takes ⟨.laneA, 0x12, 1, be1 0⟩ ∧ heating.mode = .live ∧
    (heating.order .a 0).any (fun o => o.state != .posted && !o.abort) ∧
    ((heating.chan 0).attempt = some attempt0 ∧ (heating.chan 0).state = .heating ∧ attempt0.joint = 0) ∧
    ((moving.chan 0).attempt = some attempt0 ∧ (moving.chan 0).state ≠ .heating) ∧
    ((withOrder { order .running [] with abort := true } live).order .a 0).any (fun o => o.abort) ∧
    (let s := heating.modOrder .a 0 fun o => { o with discard := true }
     (heating.order .a 0).any (fun o => !o.discard) ∧ (s.order .a 0).any (fun o => o.discard && !o.abort)) ∧
    ((heating.chan 0).heat = some heat0 ∧
      (heating.recipe attempt0.recipe).segments[heat0.segment - 1]? = some ⟨100, 500, some 400, some 50, true⟩) := by
  decide +kernel

theorem test_witness_WithdrawalRecordsPostedOrder :
    let o := order .posted [joint 0 .pending 0 none]
    let s := withOrder o live
    let full := s.setRing .a { records := [], reserved := 4090, reader := .lane }
    let brim := s.setRing .a { records := [], reserved := 4089, reader := .lane }
    live.takes ⟨.laneA, 0x12, 1, be1 0⟩ ∧ live.order .a 0 = none ∧ s.order .a 0 = some o ∧ o.state = .posted ∧
    (full.ring .a).free < 6 + o.joints.length ∧ 6 + o.joints.length ≤ (brim.ring .a).free := by decide +kernel

theorem test_witness_LanePolicyIsReplaced :
    live.takes ⟨.laneA, 0x14, 1, be1 Policy.halt.num ++ be1 15⟩ ∧ live.mode = .live ∧ live.active .a = none ∧
    (ready.active .a).isSome ∧ ready.takes ⟨.laneA, 0x14, 1, be1 Policy.halt.num ++ be1 0⟩ := by decide +kernel

theorem test_witness_LaneResetClearsOneLane :
    heating.takes ⟨.laneA, 0x15, 1, []⟩ ∧ portLane .laneA = some .a ∧
    heating.takes ⟨.supervisor, 0x15, 1, be1 (laneNum .a)⟩ ∧
    ((heating.chan 0).attempt.any (fun a => a.lane == .a) ∧ (heating.order .a 0).any (fun o => o.recipes.contains 0)) ∧
    (named.arbiter.candidate = some 0 ∧ (named.head 0).lane = some .a) := by decide +kernel

theorem test_witness_DeadlineExpiryTreatsEveryJoint :
    let s := ready.modOm .a fun om => { om with deadline := some 12 }
    (live.om .a).deadline = none ∧ (s.om .a).deadline = some 12 ∧ (s.active .a).isSome := by decide +kernel

/-- A WRITE_RECIPE payload with one segment of the power given. -/
def write (r : Byte) (power : Nat) : List Byte :=
  [r] ++ be2 300 ++ be2 5000 ++ [3, 1] ++ be2 power ++ be2 10 ++ be2 0 ++ be2 0 ++ [0]

theorem test_witness_RecipesAreWrittenWhileUnreferenced :
    let low := live.setCabinet { live.cabinet with setup := some ⟨2, 10, 30, 500⟩ }
    let used : State := { live with recipes := live.recipes.set 31 { recipe := none, refs := 1 } }
    (live.takes ⟨.supervisor, 0x20, 1, write 31 351⟩ ∧ (write 31 351).length = 7 + 9 * byteAt (write 31 351) 6 ∧
      pairAt (write 31 351) 7 = 351 ∧ (parseRecipe (write 31 351)).valuesOk = false) ∧
    byteAt (write 32 100) 0 = 32 ∧
    live.takes ⟨.supervisor, 0x20, 1, write 31 100⟩ ∧ (write 31 100).length = 7 + 9 * byteAt (write 31 100) 6 ∧
    (parseRecipe (write 31 350)).valuesOk = true ∧ byteAt (write 31 100) 0 = 31 ∧ 0 < (used.recipes.get 31).refs ∧
    (low.recipes.get 31).refs = 0 ∧ (parseRecipe (write 31 100)).recipe.peak = 10 * 10 ∧
    10 * 10 < (parseRecipe (write 31 101)).recipe.peak ∧ live.takes ⟨.supervisor, 0x21, 1, be1 31⟩ := by decide +kernel

theorem test_witness_BindingTableIsWritten :
    let x : List Byte := [23, 0, 0, 0, 0, 0, 9, 31, 0xFF, 0, 0, 0, 0, 0, 0]
    let dup : List Byte := [23, 0, 0, 0, 0, 0, 5, 31, 0xFF, 0, 0, 0, 0, 0, 0]
    let y := be8 (0xF000000000000001#64).toNat ++ orAbsent Fin.val (some (23 : BindingId)) ++
      orAbsent Fin.val (none : Option BindingId)
    live.takes ⟨.supervisor, 0x23, 1, x⟩ ∧ x.length = 15 ∧ byteAt x 0 = 23 ∧
    (∀ i < 8, byteAt x (7 + i) < 32 ∨ byteAt x (7 + i) = 0xFF) ∧ live.mode = .live ∧
    (∀ m, ∀ b ∈ live.bindings.get m, b.code ≠ codeAt x 1) ∧
    (live.bindings.get 0 = some binding0 ∧ binding0.code = codeAt dup 1 ∧ (0 : BindingId) ≠ 23) ∧
    live.takes ⟨.supervisor, 0x24, 1, be1 23⟩ ∧ live.takes ⟨.supervisor, 0x25, 1, y⟩ := by decide +kernel

theorem test_witness_HeadSettingsAreWritten :
    let x := be1 0 ++ be1 (headLaneNum (some .b)) ++ be1 (bit (HeadClass.high == .high)) ++ be1 (bit false) ++ be1 15
    live.takes ⟨.supervisor, 0x30, 1, x⟩ ∧ live.mode = .live ∧ (live.head 0).lane ≠ some .b ∧
    ((ready.head 0).lane = some .a ∧ (ready.order .a 0).any fun o => o.joints.any fun j => j.head == 0) ∧
    (ready.head 0).lane = some .a ∧ (∀ k, live.order .a k = none) := by decide +kernel

theorem test_witness_HeadsAreMaskedAndUnmasked :
    live.takes ⟨.supervisor, 0x31, 1, [0x80, 0x01]⟩ ∧ live.takes ⟨.supervisor, 0x32, 1, [0xFF, 0xFF]⟩ ∧ live.mode = .live ∧
    (withMode .quenched live).mode = .quenched := by decide +kernel

theorem test_witness_HeadHealthIsCleared :
    let low := live.setHead 0 { live.head 0 with health := ⟨true, false, true⟩, coolant := .low }
    live.takes ⟨.supervisor, 0x33, 1, be1 0 ++ be1 7⟩ ∧ live.mode = .live ∧ (live.head 0).health.coolantLow = false ∧
    ((low.head 0).health.coolantLow = true ∧ Nat.testBit 7 2 = true ∧ (low.head 0).coolant = .low) ∧
    Nat.testBit 3 2 = false := by decide +kernel

theorem test_witness_CueIsTakenOrHeld :
    let s := withOrder (order .running [joint 0 .cueWait 0 none]) live
    let latched := live.setHead 0 { live.head 0 with cueLatch := true }
    live.takes ⟨.laneA, 0x17, 1, be1 15⟩ ∧ live.mode = .live ∧ (live.head 15).lane ≠ some .a ∧
    ((s.head 0).lane = some .a ∧ s.active .a = some (0, order .running [joint 0 .cueWait 0 none]) ∧
      (order .running [joint 0 .cueWait 0 none]).front 0 = some (0, joint 0 .cueWait 0 none)) ∧
    (live.active .a = none ∧ (live.head 0).cueLatch = false ∧ (latched.head 0).cueLatch = true) := by decide +kernel

theorem test_witness_ReadingsAreStoredAndJudged :
    (withMode .proof live).mode ≠ .live ∧ live.heatingChannel 0 = none ∧
    (heating.mode = .live ∧ (heating.head 0).connected = some 0 ∧ (heating.chan 0).state = .heating ∧
      (heating.chan 0).attempt = some attempt0 ∧ (heating.chan 0).heat = some heat0) ∧
    ((heating.recipe attempt0.recipe).overtemp < 901 ∧ 901 ≤ 1200) ∧
    (400 ≤ (heating.recipe attempt0.recipe).overtemp ∧
      (heating.recipe attempt0.recipe).segments[heat0.segment - 1]? = some ⟨100, 500, some 400, some 50, true⟩ ∧
      400 ≤ 400 + (heating.head 0).anticipation ∧ ¬ 400 ≤ 399 + (heating.head 0).anticipation) := by decide +kernel

theorem test_witness_SensorTimerExpiryIsTaken :
    (live.head 0).sensorTimer = none ∧ (heating.head 0).sensorTimer = some 20 ∧ heating.mode = .live ∧
    heating.heatingChannel 0 = some 0 ∧ (withMode .proof heating).mode ≠ .live := by decide +kernel

theorem test_witness_CoolantReportsAreTaken :
    let low := live.setHead 0 { live.head 0 with health := ⟨false, false, true⟩ }
    let q := heating.setFaults { heating.faults with headCoolant := .quench }
    (low.head 0).health.coolantLow = true ∧ (live.head 0).health.coolantLow = false ∧ live.heatingChannel 0 = none ∧
    (heating.heatingChannel 0 = some 0 ∧ (heating.chan 0).attempt = some attempt0 ∧
      heating.faults.headCoolant = .contain) ∧ q.faults.headCoolant = .quench := by decide +kernel

theorem test_witness_HealthFlagGoesFromClearToSet :
    let set := live.setHead 0 { live.head 0 with health := ⟨true, false, false⟩ }
    (set.head 0).health.has .openCoil = true ∧ (live.head 0).health.has .openCoil = false ∧
    (live.head 0).lane = some .a ∧ (live.head 2).lane ≠ some .a ∧ (live.head 2).lane = none ∧
    (live.active .a = none ∧ (ready.active .a).isSome) ∧
    (ready.active .a).any (fun x => (x.2.front 2).isNone && (x.2.front 0).isSome && !x.2.headInAttempt 0) ∧
    (moving.active .a).any (fun x => x.2.headInAttempt 0) ∧
    ((moving.chan 0).state = .transfer ∧ (moving.chan 0).parked = some 0 ∧ (moving.chan 0).attempt = some attempt0 ∧
      ∀ d, ((moving.chan d).state = .transfer ∧ (moving.chan d).parked = some 0 ∧ (moving.chan d).attempt.isSome) →
        d = 0) ∧
    ((halted 1).om .a).halted = [0] := by decide +kernel

theorem test_witness_CoolUntilExpiryReadiesCoolingJoint :
    let o := order .running [joint 0 .cooling 1 none]
    let s := (withOrder o live).setHead 0 { live.head 0 with coolUntil := some 5100 }
    live.coolLeft 0 = none ∧ s.coolLeft 0 = some 5000 ∧ s.frontOf 0 = some (.a, 0, o, 0, joint 0 .cooling 1 none) ∧
    (ready.setHead 0 { ready.head 0 with coolUntil := some 100 }).coolLeft 0 = some 0 := by decide +kernel

theorem test_witness_BudgetIsSetAndChannelsAreRestored :
    let s := live.setChan 1 { live.chan 1 with state := .faulted }
    live.takes ⟨.supervisor, 0x40, 1, be1 9⟩ ∧ live.takes ⟨.supervisor, 0x40, 1, be1 10⟩ ∧ live.takes ⟨.supervisor, 0x40, 1, be1 181⟩ ∧
    (live.cabinet.setup = some ⟨2, 60, 30, 500⟩ ∧ 60 < 61) ∧ State.reset.mode = .unconfigured ∧
    (withMode .quenched live).mode = .quenched ∧ s.takes ⟨.supervisor, 0x41, 1, be1 1⟩ ∧ (s.chan 1).state = .faulted ∧
    (s.chan 5).state ≠ .faulted := by decide +kernel

theorem test_witness_CandidateIsNamedByRoundRobin :
    let hi := (ready.setHead 1 { ready.head 1 with cls := .high })
    let turn := ready.setArbiter { ready.arbiter with lowTurn := true }
    ready.arbiter.candidate = none ∧ named.arbiter.candidate ≠ none ∧
    (turn.arbiter.lowTurn = true ∧ turn.nextOf .low turn.arbiter.lowPtr = some 0) ∧
    (hi.arbiter.lowTurn = false ∧ hi.nextOf .high hi.arbiter.highPtr = some 1) ∧
    (ready.arbiter.lowTurn = false ∧ ready.nextOf .high ready.arbiter.highPtr = none ∧
      ready.nextOf .low ready.arbiter.lowPtr = some 0) ∧
    (live.nextOf .high 15 = none ∧ live.nextOf .low 15 = none) := by decide +kernel

theorem test_witness_GrantBeginsAttempt :
    let parked := named.setChan 1 { named.chan 1 with parked := some 0 }
    (named.arbiter.candidate = some 0 ∧ named.requesting 0 = true ∧
      named.frontOf 0 = some (.a, 0, order .running [joint 0 .ready 0 none, joint 1 .ready 0 none], 0, joint 0 .ready 0 none) ∧
      named.chooseChannel 0 = some 0 ∧ named.arbiter.committed + (named.recipe 0).peak ≤ named.arbiter.budget * 10) ∧
    (parked.chooseChannel 0 = some 1 ∧ (parked.chan 1).parked = some 0 ∧ parked.requesting 0 = true) ∧
    (named.chan 0).parked ≠ some 0 ∧
    (let leaving := (named.setChan 0 { named.chan 0 with parked := some 5 }).setHead 5
       { named.head 5 with connected := some 0 }
     let only := leaving.setChan 1 { named.chan 1 with state := .faulted }
     only.chooseChannel 0 = some 0 ∧ (only.chan 0).parked = some 5 ∧ (only.head 5).connected = some 0) := by
  decide +kernel

theorem test_witness_ArbitrationTouchesOnlyIdleChannelsAndReadyJoints :
    (named.chan 5).state ≠ .idle ∧ named.order .a 0 ≠ none ∧
    named.arbiter.committed < named.arbitrate.arbiter.committed := by decide +kernel

/-- A candidate that fits, one that does not, one that stops requesting, and none with a head to name. -/
theorem test_witness_ArbitrationTouchesOnlyIdleChannelsAndReadyJoints_candidate :
    let tight := named.setArbiter { named.arbiter with budget := 0 }
    let flagged := named.setHead 0 { named.head 0 with health := ⟨true, false, false⟩ }
    (named.arbiter.candidate = some 0 ∧ named.requesting 0 = true ∧ named.grantPlan.isSome ∧
      named.arbitrate.arbiter.candidate ≠ some 0) ∧
    (tight.requesting 0 = true ∧ tight.grantPlan = none ∧ tight.arbitrate.arbiter.candidate = some 0) ∧
    (flagged.requesting 0 = false ∧ flagged.arbitrate.arbiter.candidate ≠ some 0) ∧
    (ready.arbiter.candidate = none ∧ ready.served 0 = true ∧ ready.arbitrate.grants ≠ ready.grants) ∧
    (live.arbiter.candidate = none ∧ live.served 0 = false) := by decide +kernel

theorem test_witness_MoveCompletionIsTaken :
    let left := moving.setChan 0 { moving.chan 0 with attempt := some { attempt0 with abandoned := true } }
    let bare := moving.setChan 0 { moving.chan 0 with attempt := none }
    (live.chan 0).moveTimer = none ∧ (moving.chan 0).moveTimer = some 30 ∧ (moving.chan 0).state = .transfer ∧
    (moving.chan 0).attempt = some attempt0 ∧ attempt0.abandoned = false ∧ moving.mode = .live ∧
    (left.chan 0).attempt = some { attempt0 with abandoned := true } ∧ (bare.chan 0).attempt = none := by decide +kernel

theorem test_witness_SegmentsEndAndFollow :
    let g : Segment := ⟨100, 500, some 400, some 50, true⟩
    (heating.chan 0).attempt = some attempt0 ∧ (heating.chan 0).heat = some heat0 ∧
    (heating.recipe attempt0.recipe).segments[heat0.segment - 1]? = some g ∧ (heating.chan 0).state = .heating ∧
    g.energyTarget = some 50 ∧ 0 < g.power ∧ (2 : Nat) ≠ heat0.segment ∧
    (heating.recipe attempt0.recipe).segments[heat0.segment]? = some ⟨50, 200, none, none, false⟩ ∧
    (⟨.a, 0, 0, 0, 0, 1, 1⟩ : AttemptName) ≠ attempt0.name ∧
    (let idle := moving.setChan 0 { moving.chan 0 with heat := some heat0 }
     (idle.chan 0).state ≠ .heating ∧ (idle.chan 0).attempt = some attempt0) := by decide +kernel

/-- R92: a late report of an attempt that LANE_RESET removed names no later attempt of the same slot, joint and head. -/
theorem test_report_of_an_earlier_attempt_is_not_taken :
    let late := heating.setChan 0 { heating.chan 0 with attempt := some { attempt0 with serial := 1 } }
    after (.energyReport 0 attempt0.name 1) late = late ∧ late.energyTask 0 = some ⟨⟨.a, 0, 0, 0, 0, 1, 1⟩, 1, 50⟩ := by
  decide +kernel

/-- R52, R53: COOLANT_LOW cleared while the abandoned move runs: the other joint of the head is skipped all the same. -/
theorem test_cleared_flag_still_skips_the_joints_of_an_abandoned_move :
    let o := order .running [joint 0 .transfer 1 none, joint 0 .pending 0 none, joint 1 .pending 0 none]
    let low := after (.coolantSwitchReport 0 .ok) (after (.coolantSwitchReport 0 .low) (withOrder o moving))
    let clear := after (.clearHeadHealth .supervisor 1 [0, 4]) low
    let t := after (.moveCompletion 0 true true) clear
    (low.head 0).health.coolantLow = true ∧ (clear.head 0).health.any = false ∧
    ((t.order .a 0).map fun o => o.joints.map (·.outcome)) = some [some .aborted, some .skippedHead, none] := by
  decide +kernel

theorem test_witness_AttemptEndWritesOrSuppressesRecord :
    let s := heating.modOrder .a 0 fun o => { o with discard := true }
    (heating.chan 0).attempt = some attempt0 ∧ (heating.order .a 0).any (fun o => !o.discard) ∧
    (s.order .a 0).any (fun o => o.discard) ∧ (heating.chan 0).heat = some heat0 ∧ (moving.chan 0).heat = none ∧
    (heating.recipe attempt0.recipe).segments[heat0.segment - 1]? = some ⟨100, 500, some 400, some 50, true⟩ := by
  decide +kernel

/-- R72: the stay reservation is made when the head has another READY joint, and R96 to R101 by the result. -/
theorem test_attempt_end_makes_the_stay_reservation :
    let o := order .running [joint 0 .heating 1 none, joint 0 .pending 0 none]
    let s := (withOrder o heating).setHead 0 { heating.head 0 with stay := true }
    let t (res : AttemptResult) := s.cutAttempt 0 res .idle
    ((t .good).stay 0 = some 0 ∧ (t .noLoad).stay 0 = none ∧ (s.cutAttempt 0 .good .faulted).stay 0 = none) ∧
    ((t .noLoad).head 0).health = ⟨true, false, false⟩ ∧ ((t .sensorLost).head 0).health = ⟨false, true, false⟩ ∧
    ((t (.faultAbort .headCoolant)).head 0).health = ⟨false, false, true⟩ ∧
    ((t (.faultAbort .inverter)).head 0).health.any = false ∧
    (t .noLoad).order .a 0 = none ∧ ((t .noLoad).ring .a).records.length = 2 := by decide +kernel

theorem test_witness_AttemptResultsAreTakenUnderPolicy :
    let o := order .running [joint 0 .heating 1 none, joint 1 .pending 0 none]
    let p (policy : Policy) := heating.modOm .a fun om => { om with policy := policy }
    heating.order .a 0 = some o ∧ o.joints[0]? = some (joint 0 .heating 1 none) ∧ (heating.om .a).policy = .autoSkip ∧
    ((p .autoRetry).om .a).policy = .autoRetry ∧ ((p .halt).om .a).policy = .halt ∧
    (joint 0 .heating 1 none).attempts < 1 + (heating.recipe 0).allowance ∧
    1 + (heating.recipe 0).allowance ≤ (joint 0 .heating 2 none).attempts ∧ o.late = false ∧
    heating.active .a = some (0, o) ∧ (heating.head 0).health.any = false ∧ attempt0.abandoned = false ∧
    (let two := order .running [joint 0 .heating 1 none, joint 0 .pending 0 none]
     (withOrder two heating).active .a = some (0, two) ∧ two.joints[1]? = some (joint 0 .pending 0 none) ∧
     (order .running [joint 0 .done 1 (some .good), joint 0 .ready 0 none]).front 0 = some (1, joint 0 .ready 0 none)) := by
  decide +kernel

/-- R101 against the example of chapter 3 (log entry 12): a cue joint reaches the front, and consumes the latch, before
the flag of the result gives it SKIPPED_HEAD. -/
theorem test_flagged_result_brings_the_next_joint_to_the_front :
    let o := order .running [joint 0 .heating 1 none, { joint 0 .pending 0 none with cue := true }, joint 1 .ready 0 none]
    let s := (withOrder o heating).setHead 0 { heating.head 0 with cueLatch := true }
    let t := s.cutAttempt 0 .sensorLost .idle
    (t.head 0).cueLatch = false ∧ (t.head 0).health = ⟨false, true, false⟩ ∧
    ((t.order .a 0).bind fun x => (x.joints[1]?).bind (·.outcome)) = some .skippedHead := by decide +kernel

/-- R105, R165, R17: a halting shortfall raises ORDER_HALTED and lifts the lane's stays; a DISCARD then ends it. -/
theorem test_order_halted_is_raised_and_ended :
    let s := (heating.modOm .a fun om => { om with policy := .halt }).setStay 1 (some 1)
    let t := s.takeResult attempt0 .shortfall
    let d := after (.discard .laneA 1 []) t
    (s.om .a).halted = [] ∧ (s.head 1).lane = some .a ∧ (s.unit .laneA).halted = false ∧
    ((t.active .a).any fun x => x.2.state == .halted) ∧ (t.unit .laneA).halted = true ∧ t.stay 1 = none ∧
    (d.unit .laneA).halted = false := by decide +kernel

theorem test_witness_ResumeDecidesOldestHaltedJoint :
    let o (n : Nat) := order .halted [joint 0 .halted n none, joint 1 .pending 0 none]
    live.mode = .live ∧ live.takes ⟨.laneA, 0x16, 1, be1 0⟩ ∧ live.takes ⟨.laneA, 0x16, 1, be1 1⟩ ∧ live.active .a = none ∧
    (ready.active .a).any (fun x => x.2.state != .halted) ∧
    ((halted 14).active .a = some (0, o 14) ∧ ((halted 14).om .a).halted = [0] ∧
      (o 14).joints[0]? = some (joint 0 .halted 14 none)) ∧
    ((halted 15).active .a = some (0, o 15) ∧ (o 15).joints[0]? = some (joint 0 .halted 15 none)) ∧
    (let two := order .halted [joint 0 .halted 1 none, joint 0 .pending 0 none]
     (withOrder two (halted 1)).active .a = some (0, two) ∧ two.joints[1]? = some (joint 0 .pending 0 none) ∧
     (order .running [joint 0 .done 1 (some .underheat), joint 0 .ready 0 none]).front 0 =
       some (1, joint 0 .ready 0 none)) := by decide +kernel

theorem test_witness_AcknowledgedRecordsLeaveTheRing :
    live.takes ⟨.laneA, 0x51, 1, be1 (laneNum .a) ++ be2 585⟩ ∧ Port.laneA = readerPort .a (live.ring .a).reader ∧
    Port.supervisor ≠ readerPort .a (live.ring .a).reader ∧ (live.ring .a).records.length < 1 ∧
    2 ≤ ((stored 2).ring .a).records.length ∧ (stored 2).takes ⟨.laneA, 0x51, 1, be1 (laneNum .a) ++ be2 2⟩ := by
  decide +kernel

theorem test_witness_ReaderIsReplaced :
    (stored 1).mode = .live ∧ (stored 1).takes ⟨.supervisor, 0x52, 1, be1 (laneNum .a) ++ be1 Reader.supervisor.num⟩ ∧
    live.takes ⟨.supervisor, 0x52, 1, [2, 0]⟩ ∧ live.takes ⟨.supervisor, 0x52, 1, [0, 2]⟩ ∧
    State.reset.takes ⟨.supervisor, 0x52, 1, [1, 1]⟩ ∧ State.reset.mode = .unconfigured := by decide +kernel

theorem test_witness_ResponsesAreSetAndErrorsCleared :
    live.mode = .live ∧ live.takes ⟨.supervisor, 0x60, 1, [3, BitVec.ofNat 8 Response.contain.num]⟩ ∧
    live.takes ⟨.supervisor, 0x60, 1, [4, 0]⟩ ∧ live.takes ⟨.supervisor, 0x60, 1, [5, 0]⟩ ∧
    live.takes ⟨.supervisor, 0x60, 1, [2, 0]⟩ ∧ live.takes ⟨.supervisor, 0x60, 1, [6, 0]⟩ ∧
    live.takes ⟨.supervisor, 0x60, 1, [3, 2]⟩ ∧ State.reset.takes ⟨.supervisor, 0x60, 1, [3, 1]⟩ ∧
    live.takes ⟨.supervisor, 0x62, 1, []⟩ ∧ (withMode .quenched live).mode = .quenched ∧
    State.reset.mode = .unconfigured ∧ State.reset.takes ⟨.supervisor, 0x62, 1, []⟩ := by decide +kernel

theorem test_witness_CabinetInputsAreTakenByMode :
    let s := live.setFaults { live.faults with busCurrent := true }
    live.faults.alarm .busCurrent = false ∧ s.faults.alarm .busCurrent = true ∧ live.mode = .live ∧
    (withMode .quenched live).mode = .quenched ∧ State.reset.mode = .unconfigured ∧
    State.reset.faults.alarm .coolantFlow = false := by decide +kernel

theorem test_witness_QuenchStopsTheCabinet :
    (heating.chan 0).state ≠ .offline ∧ (heating.chan 5).state = .offline ∧ (heating.chan 5).attempt = none ∧
    (heating.active .a).isSome ∧ heating.active .b = none ∧
    ((withOrder (order .posted []) live).order .a 0).any (fun o => o.state == .posted) ∧
    ((heating.chan 0).attempt = some attempt0 ∧ (heating.order .a 0).any (fun o => !o.discard) ∧
      (heating.chan 0).heat = some heat0 ∧
      (heating.recipe 0).segments[heat0.segment - 1]? = some ⟨100, 500, some 400, some 50, true⟩) ∧
    ((moving.chan 0).attempt = some attempt0 ∧ (moving.chan 0).heat = none) ∧
    ((heating.faultEntry .groundFault none none).lane ≠ some .a ∧
      (heating.faultEntry .inverter (some 0) (some attempt0)).lane = some .a) := by decide +kernel

theorem test_witness_QuenchStopsTheCabinet_heads :
    let parked := (live.setParked 0 (some 3)).setChan 4 { live.chan 4 with state := .offline, parked := some 5 }
    ((parked.chan 0).state ≠ .offline ∧ (parked.chan 0).parked = some 3 ∧ (parked.head 3).connected = some 0) ∧
    (∀ c, (parked.chan c).parked ≠ some 2) ∧ (parked.chan 0).state = .idle ∧
    ((heating.active .a).any fun x => x.2.recipes.contains 0) ∧ (heating.active .b).isNone := by decide +kernel

theorem test_witness_ChannelFaultsAreHandledByResponse :
    let c := live.setFaults { live.faults with inverter := .contain, matrix := .contain }
    let st (x : ChannelState) := live.setChan 0 { live.chan 0 with state := x }
    State.reset.mode = .unconfigured ∧ State.reset.arbiter.candidate = none ∧ (moving.chan 0).attempt.isSome ∧
    live.mode = .live ∧ live.faults.inverter = .quench ∧ live.faults.matrix = .quench ∧
    c.faults.inverter = .contain ∧ c.faults.matrix = .contain ∧ (live.chan 5).state = .offline ∧
    ((st .faulted).chan 0).state = .faulted ∧ ((st .stopped).chan 0).state = .stopped ∧ (live.chan 0).state = .idle ∧
    (moving.chan 0).state = .transfer ∧ ((heating.chan 0).state = .heating ∧ (heating.chan 0).attempt.isSome) := by
  decide +kernel

theorem test_witness_CabinetResetReturnsToSettling :
    let q := (withMode .quenched live).setChan 0 { live.chan 0 with state := .stopped, faultHeld := true }
    heating.takes ⟨.supervisor, 0x63, 1, []⟩ ∧ heating.mode = .live ∧ (heating.active .a).isSome ∧ q.mode = .quenched ∧
    (q.chan 0).state = .stopped ∧ (∀ c, (q.chan c).attempt = none) ∧ (q.chan 1).state = .idle ∧
    (q.chan 5).state = .offline ∧ heating.faults.coolantFlow = false ∧
    ((heating.chan 0).attempt = some attempt0 ∧ (heating.order .a 0).any (fun o => !o.discard)) ∧
    ((withOrder (order .posted []) live).order .a 0).any (fun o => o.state == .posted) ∧
    (q.setFaults { q.faults with severity := .quench }).mode = .quenched := by decide +kernel

theorem test_witness_CabinetIsSetUpOnce :
    let x : Setup := ⟨6, 180, 80, 2000⟩
    let y := be1 x.channels ++ be1 x.ceiling ++ be1 x.transfer ++ be2 x.settling
    State.reset.takes ⟨.supervisor, 0x70, 1, y⟩ ∧ State.reset.mode = .unconfigured ∧ live.takes ⟨.supervisor, 0x70, 1, y⟩ ∧
    live.mode ≠ .unconfigured ∧
    (live.takes ⟨.supervisor, 0x70, 1, [6, 181, 80, 7, 0xD0]⟩ ∧ ¬ byteAt [6, 181, 80, 7, 0xD0] 1 ≤ 180) := by
  decide +kernel

theorem test_witness_ProofIsEnteredAndLeftWithAnIdlePool :
    live.mode = .live ∧ live.takes ⟨.supervisor, 0x71, 1, []⟩ ∧ live.takes ⟨.supervisor, 0x72, 1, []⟩ ∧
    (heating.mode = .live ∧ (heating.chan 0).state = .heating) ∧ (withMode .proof live).mode = .proof ∧
    ((withMode .proof heating).mode = .proof ∧ ((withMode .proof moving).chan 0).state = .transfer) ∧
    (∀ c, (live.chan c).state ≠ .transfer ∧ (live.chan c).state ≠ .heating) ∧ (withMode .settling live).mode = .settling := by
  decide +kernel

theorem test_witness_SettlingExpiryEntersLive :
    live.cabinet.settlingTimer = none ∧
    (live.setCabinet { live.cabinet with mode := .settling, settlingTimer := some 500 }).cabinet.settlingTimer = some 500 := by
  decide +kernel

/-- A state that meets the laws, and a step from it. -/
theorem test_witness_StepsKeepLaws :
    CabinetLaw State.reset ∧ PowerLaw State.reset ∧ step State.reset = .next (State.reset.elapse 1) := by
  refine ⟨?_, ?_, rfl⟩
  · unfold CabinetLaw; decide +kernel
  · unfold PowerLaw; decide +kernel

theorem test_witness_StepsKeepLinkAndResultsLaw : LinkLaw State.reset ∧ ResultsLaw State.reset := by
  refine ⟨?_, ?_⟩
  · intro p; cases p <;> decide +kernel
  · intro p l; cases p <;> cases l <;> decide +kernel

/-! ## The commands on small states -/

/-- The answer code on a port. -/
def codeOn (s : State) (p : Port) : Option AnswerCode := (s.port p).answer.map (·.code)

theorem test_cabinet_setup_enters_settling :
    let t := after (.cabinetSetup .supervisor 1 [3, 120, 40, 1, 0xF4]) State.reset
    t.mode = .settling ∧ t.cabinet.settlingTimer = some 500 ∧ (t.chan 2).state = .idle ∧ (t.chan 3).state = .offline ∧
    t.arbiter.budget = 120 ∧ codeOn t .supervisor = some .ok := by decide +kernel

theorem test_setup_with_alarm_standing_quenches :
    let s := State.reset.setFaults { State.reset.faults with busCurrent := true }
    let t := after (.cabinetSetup .supervisor 1 [3, 120, 40, 1, 0xF4]) s
    t.mode = .quenched ∧ codeOn t .supervisor = some .ok := by decide +kernel

theorem test_release_activates_and_grants :
    let s := withOrder (order .posted [joint 0 .pending 0 none, joint 1 .pending 0 none]) live
    let t := after (.release .laneA 1 []) s
    (t.chan 0).state = .transfer ∧ (t.chan 0).parked = some 0 ∧ (t.chan 1).parked = some 1 ∧
    t.arbiter.committed = 200 ∧ (t.ring .a).reserved = 8 + 12 + 12 ∧ t.arbiter.candidate = none := by decide +kernel

theorem test_move_completion_heats :
    let t := after (.moveCompletion 0 true true) moving
    (t.chan 0).state = .heating ∧ ((t.chan 0).heat.map (·.segTimer)) = some 500 ∧ t.drivePower 0 = 100 ∧
    (t.head 0).sensorTimer = some 20 := by decide +kernel

theorem test_no_load_sets_open_coil :
    let t := after (.moveCompletion 0 true false) moving
    (t.head 0).health.openCoil = true ∧ (t.chan 0).state = .idle ∧ (t.unit .laneA).headFault.isSome ∧
    (t.ring .a).records.length = 1 := by decide +kernel

theorem test_shortfall_under_halt_halts_the_order :
    let s := heating.modOm .a fun om => { om with policy := .halt }
    let t := after (.segmentTimerExpiry 0) s
    (t.om .a).halted = [0] ∧ (t.active .a).any (fun x => x.2.state == .halted) ∧ (t.unit .laneA).halted = true := by
  decide +kernel

theorem test_overheat_cuts_the_attempt :
    let t := after (.pyrometerReading 0 (some 901)) heating
    ((t.order .a 0).bind fun o => o.joints[0]?.bind (·.outcome)) = some .overheat ∧ (t.chan 0).state = .idle ∧
    (t.chan 0).parked = some 0 := by decide +kernel

theorem test_sensor_loss_sets_sensor_lost :
    let t := after (.sensorTimerExpiry 0) heating
    (t.head 0).health.sensorLost = true ∧ (t.head 0).temp = none ∧ t.now = 120 := by decide +kernel

theorem test_lane_reset_frees_the_channel_with_no_record :
    let t := after (.laneReset .supervisor 1 [0]) (heating.setArbiter { heating.arbiter with committed := 100 })
    (t.chan 0).state = .idle ∧ (t.chan 0).parked = some 0 ∧ t.arbiter.committed = 0 ∧ (t.ring .a).records = [] := by
  decide +kernel

theorem test_quench_and_cabinet_reset :
    let t := after (.cabinetInputChange .coolantFlow true) heating
    let u := after (.cabinetReset .supervisor 1 []) (after (.cabinetInputChange .coolantFlow false) t)
    (t.chan 0).state = .stopped ∧ t.ledQuench = true ∧ (t.ring .a).records.length = 2 ∧ u.mode = .settling ∧
    (u.chan 0).state = .idle ∧ u.faults.severity = .contained := by decide +kernel

theorem test_empty_queue_ticks : (live.elapse 1).now = 101 ∧ step live = .next (live.elapse 1) :=
  ⟨by decide +kernel, rfl⟩

end Sys2Proof.Tests
end

section
/-! PROOF. SET_READER (R127, R128): what the change of a ring's reader leaves of the rings, the marks and the rest of
the state, and how its request is checked. -/

namespace Sys2Proof.Machine

/-! ### A ring's report (R128) -/

theorem State.ring_reportResults (s : State) (p : Port) (l m : Lane) (b : Bool) :
    (s.reportResults p l b).ring m = s.ring m := rfl

theorem State.unit_setRing (s : State) (l : Lane) (x : Ring) (p : Port) : (s.setRing l x).unit p = s.unit p := rfl

/-- A report writes the one mark of its port and ring. -/
theorem State.mark_reportResults (s : State) (p q : Port) (l m : Lane) (b : Bool) :
    ((s.reportResults p l b).unit q).results.get m =
      if q = p ∧ m = l then b else (s.unit q).results.get m := by
  by_cases hq : q = p
  · subst hq; simp [State.reportResults]
  · simp [State.reportResults, hq]

/-- A report changes no part of an event unit but the marks. -/
theorem State.unit_reportResults_with_results (s : State) (p q : Port) (l : Lane) (b : Bool) (x : LaneTbl Bool) :
    { (s.reportResults p l b).unit q with results := x } = { s.unit q with results := x } := by
  by_cases hq : q = p
  · subst hq; simp [State.reportResults]
  · simp [State.reportResults, hq]

/-! ### The change of reader (R127, R128) -/

/-- What neither a report nor a change of a ring touches, the change of reader keeps. -/
theorem State.changeReader_keeps {α : Sort*} (f : State → α)
    (hreport : ∀ t p l b, f (State.reportResults t p l b) = f t) (hring : ∀ t l x, f (State.setRing t l x) = f t)
    (s : State) (l : Lane) (r : Reader) : f (s.changeReader l r) = f s := by
  unfold State.changeReader
  split
  · exact (hring _ _ _).trans (hreport _ _ _ _)
  · exact (hreport _ _ _ _).trans ((hring _ _ _).trans (hreport _ _ _ _))

theorem State.changeReader_outer (s : State) (l : Lane) (r : Reader) : (s.changeReader l r).outer = s.outer :=
  State.changeReader_keeps State.outer State.reportResults_outer State.setRing_outer s l r

/-- The reader of the one ring is replaced; its records and reservations and the other ring stay. -/
theorem State.ring_changeReader (s : State) (l m : Lane) (r : Reader) :
    (s.changeReader l r).ring m = if m = l then { s.ring l with reader := r } else s.ring m := by
  unfold State.changeReader
  split <;> simp [State.ring_reportResults]

/-- The ring's mark leaves the old reader and, with records stored, stands on the new one. The new reader's report is
the later one, so it decides where both are the same port. -/
theorem State.mark_changeReader (s : State) (l m : Lane) (r : Reader) (p : Port) :
    ((s.changeReader l r).unit p).results.get m =
      if m = l then
        if p = readerPort l r ∧ (s.ring l).records ≠ [] then true
        else if p = readerPort l (s.ring l).reader then false
        else (s.unit p).results.get m
      else (s.unit p).results.get m := by
  unfold State.changeReader
  by_cases hm : m = l
  · by_cases hrec : (s.ring l).records = []
    · simp [hm, hrec, State.unit_setRing, State.mark_reportResults]
    · simp [hm, hrec, State.unit_setRing, State.mark_reportResults]
  · split <;> simp [hm, State.unit_setRing, State.mark_reportResults]

theorem State.unit_changeReader (s : State) (l : Lane) (r : Reader) (p : Port) :
    (s.changeReader l r).unit p = { s.unit p with results := ((s.changeReader l r).unit p).results } :=
  State.changeReader_keeps (fun t => { t.unit p with results := ((s.changeReader l r).unit p).results })
    (fun _ _ _ _ => State.unit_reportResults_with_results _ _ _ _ _ _) (fun _ _ _ => rfl) s l r

/-! ### The operands of SET_READER (R181) -/

theorem laneOfByte_laneNum (l : Lane) : laneOfByte (laneNum l) = some l := by cases l <;> rfl

theorem readerOf_num (r : Reader) : readerOf r.num = some r := by cases r <;> rfl

theorem laneOfByte_eq_none {n : Nat} (h : 1 < n) : laneOfByte n = none := by
  match n with
  | n + 2 => rfl

theorem readerOf_eq_none {n : Nat} (h : 1 < n) : readerOf n = none := by
  match n with
  | n + 2 => rfl

theorem laneOfByte_of_le_one {n : Nat} (h : n ≤ 1) : ∃ l, laneOfByte n = some l := by
  match n with
  | 0 => exact ⟨.a, rfl⟩
  | 1 => exact ⟨.b, rfl⟩

theorem readerOf_of_le_one {n : Nat} (h : n ≤ 1) : ∃ r, readerOf n = some r := by
  match n with
  | 0 => exact ⟨.lane, rfl⟩
  | 1 => exact ⟨.supervisor, rfl⟩

/-! ### The checks of SET_READER (R127) -/

theorem needSetup_of_unconfigured {s : State} (h : s.mode = .unconfigured) (rest : Answered) :
    needSetup s rest = .error .unconfigured := by simp [needSetup, need, h]

theorem needSetup_of_ne_unconfigured {s : State} (h : s.mode ≠ .unconfigured) (rest : Answered) :
    needSetup s rest = rest := by simp [needSetup, need, h]

theorem setReaderBody_of_codes {payload : List Byte} {l : Lane} {r : Reader}
    (hl : laneOfByte (byteAt payload 0) = some l) (hr : readerOf (byteAt payload 1) = some r) (s : State) :
    setReaderBody payload s = needSetup s (.ok (s.changeReader l r, [])) := by simp [setReaderBody, hl, hr]

/-- A ring code or a reader code above 1 is refused, whatever the other code is. -/
theorem setReaderBody_badValue {payload : List Byte} (h : 1 < byteAt payload 0 ∨ 1 < byteAt payload 1) (s : State) :
    setReaderBody payload s = .error .badValue := by
  unfold setReaderBody
  split
  · rename_i hl hr
    cases h with
    | inl hring => rw [laneOfByte_eq_none hring] at hl; cases hl
    | inr hreader => rw [readerOf_eq_none hreader] at hr; cases hr
  · rfl
  · rfl

/-- A SET_READER of two bytes that the Supervisor Port takes is judged by its body. -/
theorem exec_setReader_taken {tag : Byte} {payload : List Byte} {s : State} (hlen : payload.length = 2)
    (h : s.takes ⟨.supervisor, 0x52, tag, payload⟩) :
    exec (.setReader .supervisor tag payload) s =
      .next (judged ⟨.supervisor, 0x52, tag, payload⟩ true true (setReaderBody payload) s) := by
  have hserve : exec (.setReader .supervisor tag payload) s =
      serve ⟨.supervisor, 0x52, tag, payload⟩ (payload.length == 2) true (setReaderBody payload) s := rfl
  rw [hserve, serve_taken _ _ _ _ _ h, hlen]
  rfl

theorem exec_setReader_refused {tag : Byte} {payload : List Byte} {s : State} {code : AnswerCode}
    (hlen : payload.length = 2) (h : s.takes ⟨.supervisor, 0x52, tag, payload⟩)
    (hbody : setReaderBody payload s = .error code) :
    exec (.setReader .supervisor tag payload) s =
      .next (s.answered ⟨.supervisor, 0x52, tag, payload⟩ code []) := by
  rw [exec_setReader_taken hlen h, judged_error _ _ _ _ hbody]

/-- Outside UNCONFIGURED a SET_READER that names a ring and a reader changes the reader and answers OK. -/
theorem exec_setReader_accepted {tag : Byte} {s : State} {l : Lane} {r : Reader} (hmode : s.mode ≠ .unconfigured)
    (h : s.takes ⟨.supervisor, 0x52, tag, be1 (laneNum l) ++ be1 r.num⟩) :
    exec (.setReader .supervisor tag (be1 (laneNum l) ++ be1 r.num)) s =
      .next ((s.changeReader l r).answered ⟨.supervisor, 0x52, tag, be1 (laneNum l) ++ be1 r.num⟩ .ok []) := by
  have hl : byteAt (be1 (laneNum l) ++ be1 r.num) 0 = laneNum l := by cases l <;> rfl
  have hr : byteAt (be1 (laneNum l) ++ be1 r.num) 1 = r.num := by cases r <;> rfl
  have hbody : setReaderBody (be1 (laneNum l) ++ be1 r.num) s = .ok (s.changeReader l r, []) := by
    rw [setReaderBody_of_codes (hl ▸ laneOfByte_laneNum l) (hr ▸ readerOf_num r), needSetup_of_ne_unconfigured hmode]
  rw [exec_setReader_taken rfl h, judged_ok _ _ _ _ _ hbody]

/-- Settles O47: the refusals follow from the order of the checks, and the accepted request from what the change of
reader leaves of the rings, the marks and the rest. -/
theorem readerIsReplaced : Obligations.ReaderIsReplaced := by
  refine ⟨fun ring reader tag s htakes => ⟨fun hcodes => ?_, fun hring hreader hmode => ?_⟩,
    fun l reader tag s hmode htakes => ⟨s.changeReader l reader, exec_setReader_accepted hmode htakes, ?_⟩⟩
  · exact exec_setReader_refused rfl htakes (setReaderBody_badValue (payload := [ring, reader]) hcodes s)
  · obtain ⟨l, hl⟩ := laneOfByte_of_le_one hring
    obtain ⟨r, hr⟩ := readerOf_of_le_one hreader
    have hbody : setReaderBody [ring, reader] s = .error .unconfigured :=
      (setReaderBody_of_codes (payload := [ring, reader]) hl hr s).trans (needSetup_of_unconfigured hmode _)
    exact exec_setReader_refused rfl htakes hbody
  · have houter := s.changeReader_outer l reader
    refine ⟨?_, fun m hm => ?_, fun p m => s.mark_changeReader l m reader p, s.unit_changeReader l reader, ?_, ?_, ?_,
      ?_, ?_, State.faults_of_outer houter, State.cabinet_of_outer houter, State.ports_of_outer houter⟩
    · simp [State.ring_changeReader]
    · simp [State.ring_changeReader, hm]
    · exact State.changeReader_keeps State.oms (fun _ _ _ _ => rfl) State.setRing_oms s l reader
    · exact State.changeReader_keeps State.heads (fun _ _ _ _ => rfl) State.setRing_heads s l reader
    · exact State.changeReader_keeps State.channels (fun _ _ _ _ => rfl) State.setRing_channels s l reader
    · exact State.changeReader_keeps State.arbiter (fun _ _ _ _ => rfl) State.setRing_arbiter s l reader
    · exact State.changeReader_keeps State.recipes (fun _ _ _ _ => rfl) State.setRing_recipes s l reader

end Sys2Proof.Machine
end

section
/-! PROOF. SET_RESPONSE and CLEAR_ERRORS (R134, R146): how a request of the Supervisor Port is answered by its body, and
what the two bodies check. -/

namespace Sys2Proof.Machine

/-! ### A request that the Supervisor Port takes (R177, R178) -/

theorem serveSupervisor_accepted {q : Request} {body : State → Answered} {s t : State} {x : List Byte}
    (hport : q.port = .supervisor) (htakes : s.takes q) (hbody : body s = .ok (t, x)) :
    serveSupervisor q true body s = .next (t.answered q .ok x) := by
  rw [serveSupervisor, serve_taken _ _ _ _ _ htakes, hport]
  exact congrArg _ (judged_ok _ _ _ _ _ hbody)

theorem serveSupervisor_refused {q : Request} {body : State → Answered} {s : State} {code : AnswerCode}
    (hport : q.port = .supervisor) (htakes : s.takes q) (hbody : body s = .error code) :
    serveSupervisor q true body s = .next (s.answered q code []) := by
  rw [serveSupervisor, serve_taken _ _ _ _ _ htakes, hport]
  exact congrArg _ (judged_error _ _ _ _ hbody)

/-! ### The mode check of a request refused in UNCONFIGURED and in QUENCHED (R177 step 4) -/

theorem needMode_of_unconfigured {s : State} (h : s.mode = .unconfigured) (rest : Answered) :
    needMode s rest = .error .unconfigured := needSetup_of_unconfigured h _

theorem needMode_of_quenched {s : State} (h : s.mode = .quenched) (rest : Answered) :
    needMode s rest = .error .quenched := by simp [needMode, needSetup, need, h]

theorem needMode_of_ne {s : State} (hsetup : s.mode ≠ .unconfigured) (hquench : s.mode ≠ .quenched)
    (rest : Answered) : needMode s rest = rest := by
  rw [needMode, needSetup_of_ne_unconfigured hsetup]
  simp [need, hquench]

/-! ### The operands of SET_RESPONSE (R134, R181) -/

theorem selectableOf_eq_none {n : Nat} (h : n < 3 ∨ 5 < n) : selectableOf n = none := by
  match n with
  | 0 | 1 | 2 => rfl
  | 3 | 4 | 5 => omega
  | n + 6 => rfl

theorem selectableOf_of_mem_range {n : Nat} (hlow : 3 ≤ n) (hhigh : n ≤ 5) : ∃ cls, selectableOf n = some cls := by
  match n with
  | 0 | 1 | 2 => omega
  | 3 => exact ⟨.inverter, rfl⟩
  | 4 => exact ⟨.matrix, rfl⟩
  | 5 => exact ⟨.headCoolant, rfl⟩
  | n + 6 => omega

theorem responseOf_num (r : Response) : responseOf (BitVec.ofNat 8 r.num).toNat = some r := by cases r <;> rfl

theorem responseOf_eq_none {n : Nat} (h : 1 < n) : responseOf n = none := by
  match n with
  | n + 2 => rfl

theorem responseOf_of_le_one {n : Nat} (h : n ≤ 1) : ∃ r, responseOf n = some r := by
  match n with
  | 0 => exact ⟨.quench, rfl⟩
  | 1 => exact ⟨.contain, rfl⟩

/-! ### SET_RESPONSE (R134) -/

theorem setResponseBody_of_codes {payload : List Byte} {cls : AbortCause} {r : Response}
    (hcls : selectableOf (byteAt payload 0) = some cls) (hresp : responseOf (byteAt payload 1) = some r) (s : State) :
    setResponseBody payload s = needSetup s (.ok (s.setFaults (s.faults.setResponse cls r), [])) := by
  simp [setResponseBody, hcls, hresp]

/-- A class that is not selectable or a response code above 1 is refused, whatever the other code is. -/
theorem setResponseBody_badValue {payload : List Byte}
    (h : byteAt payload 0 < 3 ∨ 5 < byteAt payload 0 ∨ 1 < byteAt payload 1) (s : State) :
    setResponseBody payload s = .error .badValue := by
  unfold setResponseBody
  split
  · rename_i hcls hresp
    rcases or_assoc.mpr h with hrange | hcode
    · rw [selectableOf_eq_none hrange] at hcls; cases hcls
    · rw [responseOf_eq_none hcode] at hresp; cases hresp
  · rfl
  · rfl

/-- Outside UNCONFIGURED a SET_RESPONSE of a selectable class replaces that class's response and answers OK. -/
theorem exec_setResponse_accepted {cls tag : Byte} {c : AbortCause} {r : Response} {s : State}
    (hcls : selectableOf cls.toNat = some c) (hmode : s.mode ≠ .unconfigured)
    (htakes : s.takes ⟨.supervisor, 0x60, tag, [cls, BitVec.ofNat 8 r.num]⟩) :
    exec (.setResponse .supervisor tag [cls, BitVec.ofNat 8 r.num]) s =
      .next ((s.setFaults (s.faults.setResponse c r)).answered
        ⟨.supervisor, 0x60, tag, [cls, BitVec.ofNat 8 r.num]⟩ .ok []) :=
  serveSupervisor_accepted rfl htakes <|
    (setResponseBody_of_codes (payload := [cls, BitVec.ofNat 8 r.num]) hcls (responseOf_num r) s).trans
      (needSetup_of_ne_unconfigured hmode _)

theorem exec_setResponse_refused {cls resp tag : Byte} {s : State} {code : AnswerCode}
    (htakes : s.takes ⟨.supervisor, 0x60, tag, [cls, resp]⟩) (hbody : setResponseBody [cls, resp] s = .error code) :
    exec (.setResponse .supervisor tag [cls, resp]) s =
      .next (s.answered ⟨.supervisor, 0x60, tag, [cls, resp]⟩ code []) :=
  serveSupervisor_refused rfl htakes hbody

/-! ### CLEAR_ERRORS (R146) -/

/-- In every other mode than UNCONFIGURED and QUENCHED, CLEAR_ERRORS clears the logs and the severity and answers OK. -/
theorem exec_clearErrors_accepted {tag : Byte} {s : State} (hsetup : s.mode ≠ .unconfigured)
    (hquench : s.mode ≠ .quenched) (htakes : s.takes ⟨.supervisor, 0x62, tag, []⟩) :
    exec (.clearErrors .supervisor tag []) s =
      .next ((s.setFaults s.faults.clearErrors).answered ⟨.supervisor, 0x62, tag, []⟩ .ok []) :=
  serveSupervisor_accepted rfl htakes (needMode_of_ne hsetup hquench _)

theorem exec_clearErrors_refused {tag : Byte} {s : State} {code : AnswerCode}
    (htakes : s.takes ⟨.supervisor, 0x62, tag, []⟩) (hbody : clearErrorsBody s = .error code) :
    exec (.clearErrors .supervisor tag []) s = .next (s.answered ⟨.supervisor, 0x62, tag, []⟩ code []) :=
  serveSupervisor_refused rfl htakes hbody

/-- Settles O48: each of the three class codes names its class, and the refusals follow from the order of the checks. -/
theorem responsesAreSetAndErrorsCleared : Obligations.ResponsesAreSetAndErrorsCleared := by
  refine ⟨fun r tag s hmode => ⟨fun htakes => ?_, fun htakes => ?_, fun htakes => ?_⟩,
    fun cls resp tag s htakes => ⟨fun hcodes => ?_, fun hlow hhigh hresp hmode => ?_⟩,
    fun tag s htakes => ⟨fun hmode => ?_, fun hmode => ?_, fun hsetup hquench => ?_⟩⟩
  · exact exec_setResponse_accepted (c := .inverter) rfl hmode htakes
  · exact exec_setResponse_accepted (c := .matrix) rfl hmode htakes
  · exact exec_setResponse_accepted (c := .headCoolant) rfl hmode htakes
  · exact exec_setResponse_refused htakes (setResponseBody_badValue (payload := [cls, resp]) hcodes s)
  · obtain ⟨c, hc⟩ := selectableOf_of_mem_range hlow hhigh
    obtain ⟨r, hr⟩ := responseOf_of_le_one hresp
    have hbody : setResponseBody [cls, resp] s = .error .unconfigured :=
      (setResponseBody_of_codes (payload := [cls, resp]) hc hr s).trans (needSetup_of_unconfigured hmode _)
    exact exec_setResponse_refused htakes hbody
  · exact exec_clearErrors_refused htakes (needMode_of_unconfigured hmode _)
  · exact exec_clearErrors_refused htakes (needMode_of_quenched hmode _)
  · exact exec_clearErrors_accepted hsetup hquench htakes

end Sys2Proof.Machine
end

section
/-! PROOF. CABINET_SETUP (R83, R152, R153): the setup values as bytes, the checks of the request, and what the setup
leaves of the channels, the arbiter and the cabinet before standing alarms are taken. -/

namespace Sys2Proof.Machine

/-! ### Big-endian fields read back (R181) -/

/-- A value below 256 is the value of its byte. -/
theorem toNat_ofNat_byte {v : Nat} (h : v < 256) : (BitVec.ofNat 8 v).toNat = v :=
  (BitVec.toNat_ofNat v 8).trans (Nat.mod_eq_of_lt h)

/-- A value below 65536 is the value of its two bytes. -/
theorem toNat_ofNat_pair {v : Nat} (h : v < 65536) :
    (BitVec.ofNat 8 (v / 256)).toNat * 256 + (BitVec.ofNat 8 v).toNat = v := by
  rw [BitVec.toNat_ofNat, BitVec.toNat_ofNat]
  omega

/-! ### The setup values (R150, R152) -/

/-- The payload of CABINET_SETUP with the setup values `x` (R181). -/
def setupPayload (x : Setup) : List Byte := be1 x.channels ++ be1 x.ceiling ++ be1 x.transfer ++ be2 x.settling

theorem setupOk_iff (x : Setup) : setupOk x = true ↔
    1 ≤ x.channels ∧ x.channels ≤ 6 ∧ 10 ≤ x.ceiling ∧ x.ceiling ≤ 180 ∧ 20 ≤ x.transfer ∧ x.transfer ≤ 80 ∧
      200 ≤ x.settling ∧ x.settling ≤ 2000 := by
  simp [setupOk, and_assoc]

/-- Values in range are read back from their payload, for they fit their fields. -/
theorem parseSetup_setupPayload {x : Setup} (h : setupOk x = true) : parseSetup (setupPayload x) = x := by
  obtain ⟨-, hchannels, -, hceiling, -, htransfer, -, hsettling⟩ := (setupOk_iff x).mp h
  have hc : byteAt (setupPayload x) 0 = x.channels := toNat_ofNat_byte (by omega)
  have hb : byteAt (setupPayload x) 1 = x.ceiling := toNat_ofNat_byte (by omega)
  have ht : byteAt (setupPayload x) 2 = x.transfer := toNat_ofNat_byte (by omega)
  have hs : pairAt (setupPayload x) 3 = x.settling := toNat_ofNat_pair (by omega)
  rw [parseSetup, hc, hb, ht, hs]

/-! ### The setup before standing alarms are taken (R83, R153) -/

/-- The state at the entry to SETTLING, before the standing alarms of R133 are taken. -/
def State.installed (s : State) (x : Setup) : State :=
  ((s.mapChans (installChannel x.channels)).setArbiter { s.arbiter with budget := x.ceiling, committed := 0 }).setCabinet
    (s.cabinet.setUp x)

theorem State.setUp_eq_standingAlarms (s : State) (x : Setup) : s.setUp x = (s.installed x).standingAlarms := rfl

theorem State.chan_installed (s : State) (x : Setup) (c : ChannelId) :
    (s.installed x).chan c = installChannel x.channels c (s.chan c) :=
  State.chan_mapChans s (installChannel x.channels) c

/-- A channel below the installed count is IDLE, unparked and without an attempt. -/
theorem installChannel_of_lt {count : Nat} {c : ChannelId} (h : c.val < count) (r : ChannelRec) :
    installChannel count c r = { r with state := .idle, parked := none, attempt := none } := if_pos h

theorem installChannel_of_le {count : Nat} {c : ChannelId} (h : count ≤ c.val) (r : ChannelRec) :
    installChannel count c r = r := if_neg (Nat.not_lt.mpr h)

/-! ### The checks of CABINET_SETUP (R152) -/

theorem need_true (code : AnswerCode) (rest : Answered) : need true code rest = rest := rfl

theorem need_false (code : AnswerCode) (rest : Answered) : need false code rest = .error code := rfl

theorem cabinetSetupBody_badValue {payload : List Byte} (h : setupOk (parseSetup payload) = false) (s : State) :
    cabinetSetupBody payload s = .error .badValue := by
  rw [cabinetSetupBody, h, need_false]

theorem cabinetSetupBody_once {x : Setup} {s : State} (h : setupOk x = true) (hmode : s.mode ≠ .unconfigured) :
    cabinetSetupBody (setupPayload x) s = .error .once := by
  rw [cabinetSetupBody, parseSetup_setupPayload h, h, need_true, beq_eq_false_iff_ne.mpr hmode, need_false]

theorem cabinetSetupBody_ok {x : Setup} {s : State} (h : setupOk x = true) (hmode : s.mode = .unconfigured) :
    cabinetSetupBody (setupPayload x) s = .ok ((s.installed x).standingAlarms, []) := by
  rw [cabinetSetupBody, parseSetup_setupPayload h, h, need_true, beq_iff_eq.mpr hmode, need_true,
    State.setUp_eq_standingAlarms]

/-! ### How the request is answered (R177) -/

theorem exec_cabinetSetup_of_length {tag : Byte} {payload : List Byte} (hlen : payload.length = 5) (s : State) :
    exec (.cabinetSetup .supervisor tag payload) s =
      serveSupervisor ⟨.supervisor, 0x70, tag, payload⟩ true (cabinetSetupBody payload) s := by
  have hserve : exec (.cabinetSetup .supervisor tag payload) s =
      serveSupervisor ⟨.supervisor, 0x70, tag, payload⟩ (payload.length == 5) (cabinetSetupBody payload) s := rfl
  rw [hserve, beq_iff_eq.mpr hlen]

theorem exec_cabinetSetup_refused {tag : Byte} {payload : List Byte} {s : State} {code : AnswerCode}
    (hlen : payload.length = 5) (htakes : s.takes ⟨.supervisor, 0x70, tag, payload⟩)
    (hbody : cabinetSetupBody payload s = .error code) :
    exec (.cabinetSetup .supervisor tag payload) s =
      .next (s.answered ⟨.supervisor, 0x70, tag, payload⟩ code []) :=
  (exec_cabinetSetup_of_length hlen s).trans (serveSupervisor_refused rfl htakes hbody)

/-- In UNCONFIGURED a CABINET_SETUP whose values are in range sets the cabinet up and answers OK. -/
theorem exec_cabinetSetup_accepted {tag : Byte} {x : Setup} {s : State} (h : setupOk x = true)
    (hmode : s.mode = .unconfigured) (htakes : s.takes ⟨.supervisor, 0x70, tag, setupPayload x⟩) :
    exec (.cabinetSetup .supervisor tag (setupPayload x)) s =
      .next ((s.installed x).standingAlarms.answered ⟨.supervisor, 0x70, tag, setupPayload x⟩ .ok []) :=
  (exec_cabinetSetup_of_length rfl s).trans (serveSupervisor_accepted rfl htakes (cabinetSetupBody_ok h hmode))

/-- Settles O53: the refusals follow from the order of the checks, and the accepted request from the values read back
from their payload and the state at the entry to SETTLING. -/
theorem cabinetIsSetUpOnce : Obligations.CabinetIsSetUpOnce := by
  refine ⟨fun payload tag s hlen htakes hrange => ?_,
    fun x tag s hc₁ hc₂ hb₁ hb₂ ht₁ ht₂ hs₁ hs₂ htakes => ?_⟩
  · have hbad : setupOk (parseSetup payload) = false :=
      Bool.eq_false_iff.mpr fun hok => hrange ((setupOk_iff _).mp hok)
    exact exec_cabinetSetup_refused hlen htakes (cabinetSetupBody_badValue hbad s)
  · have hok : setupOk x = true := (setupOk_iff x).mpr ⟨hc₁, hc₂, hb₁, hb₂, ht₁, ht₂, hs₁, hs₂⟩
    refine ⟨fun hmode => exec_cabinetSetup_refused rfl htakes (cabinetSetupBody_once hok hmode),
      fun hmode => ⟨s.installed x, exec_cabinetSetup_accepted hok hmode htakes, rfl, fun c hc => ?_, fun c hc => ?_,
        rfl, rfl, rfl, rfl, rfl, rfl, rfl, rfl⟩⟩
    · rw [State.chan_installed, installChannel_of_lt hc]
      exact ⟨rfl, rfl, rfl⟩
    · rw [State.chan_installed, installChannel_of_le hc]

end Sys2Proof.Machine
end

section
/-! PROOF. SET_ATTENTION (R168): how a request that every port may send is answered by its body, what the request does to
the enable, and when the attention line is asserted. -/

namespace Sys2Proof.Machine

/-! ### A request that every port may send (R177, R178) -/

theorem serveAny_accepted {q : Request} {body : State → Answered} {s t : State} {x : List Byte}
    (htakes : s.takes q) (hbody : body s = .ok (t, x)) : serveAny q true body s = .next (t.answered q .ok x) := by
  rw [serveAny, serve_taken _ _ _ _ _ htakes, judged_ok _ _ _ _ _ hbody]

theorem serveAny_refused {q : Request} {body : State → Answered} {s : State} {code : AnswerCode}
    (htakes : s.takes q) (hbody : body s = .error code) : serveAny q true body s = .next (s.answered q code []) := by
  rw [serveAny, serve_taken _ _ _ _ _ htakes, judged_error _ _ _ _ hbody]

/-! ### The enable (R168, R181) -/

theorem switchOf_bit (on : Bool) : switchOf (bit on) = some on := by cases on <;> rfl

theorem switchOf_eq_none {n : Nat} (h : 1 < n) : switchOf n = none := by
  match n with
  | n + 2 => rfl

theorem byteAt_be1_bit (on : Bool) : byteAt (be1 (bit on)) 0 = bit on := by cases on <;> rfl

/-- No mode is asked: a switch code sets the enable of the port's unit in every state. -/
theorem setAttentionBody_of_switch {payload : List Byte} {on : Bool} (h : switchOf (byteAt payload 0) = some on)
    (p : Port) (s : State) :
    setAttentionBody p payload s = .ok (s.setUnit p { s.unit p with attention := on }, []) := by
  simp [setAttentionBody, h]

theorem setAttentionBody_badValue {payload : List Byte} (h : 1 < byteAt payload 0) (p : Port) (s : State) :
    setAttentionBody p payload s = .error .badValue := by
  simp [setAttentionBody, switchOf_eq_none h]

theorem exec_setAttention_of_length {payload : List Byte} (hlen : payload.length = 1) (p : Port) (tag : Byte)
    (s : State) :
    exec (.setAttention p tag payload) s = serveAny ⟨p, 0x03, tag, payload⟩ true (setAttentionBody p payload) s := by
  have hserve : exec (.setAttention p tag payload) s =
      serveAny ⟨p, 0x03, tag, payload⟩ (payload.length == 1) (setAttentionBody p payload) s := rfl
  rw [hserve, beq_iff_eq.mpr hlen]

theorem exec_setAttention_accepted {p : Port} {tag : Byte} {on : Bool} {s : State}
    (htakes : s.takes ⟨p, 0x03, tag, be1 (bit on)⟩) :
    exec (.setAttention p tag (be1 (bit on))) s =
      .next ((s.setUnit p { s.unit p with attention := on }).answered ⟨p, 0x03, tag, be1 (bit on)⟩ .ok []) := by
  have hswitch : switchOf (byteAt (be1 (bit on)) 0) = some on := by rw [byteAt_be1_bit, switchOf_bit]
  rw [exec_setAttention_of_length rfl, serveAny_accepted htakes (setAttentionBody_of_switch hswitch p s)]

theorem exec_setAttention_badValue {p : Port} {tag v : Byte} {s : State} (htakes : s.takes ⟨p, 0x03, tag, [v]⟩)
    (h : 1 < v.toNat) :
    exec (.setAttention p tag [v]) s = .next (s.answered ⟨p, 0x03, tag, [v]⟩ .badValue []) := by
  rw [exec_setAttention_of_length rfl,
    serveAny_refused htakes (setAttentionBody_badValue (payload := [v]) h p s)]

/-! ### The attention line (R162, R163, R168) -/

/-- A kind that a port's unit holds never has the code of NONE. -/
theorem eventCode_ne_zero {p : Port} : ∀ k ∈ kindsOf p, eventCode p k ≠ 0 := by
  cases p with
  | laneA => decide
  | laneB => decide
  | supervisor => decide

theorem State.vectorKind_mem_kindsOf {s : State} {p : Port} {k : EventKind} (h : s.vectorKind p = some k) :
    k ∈ kindsOf p :=
  List.mem_of_mem_filter (List.mem_of_head? h)

/-- The vector is not NONE exactly while a kind is pending, for no kind of the unit has the code 0. -/
theorem State.vector_ne_zero_iff (s : State) (p : Port) : s.vector p ≠ 0 ↔ (s.vectorKind p).isSome = true := by
  cases h : s.vectorKind p with
  | none => simp [State.vector, h]
  | some k => simpa [State.vector, h] using eventCode_ne_zero k (State.vectorKind_mem_kindsOf h)

theorem State.attentionLine_iff (s : State) (p : Port) :
    s.attentionLine p = true ↔ s.vector p ≠ 0 ∧ (s.unit p).attention = true := by
  rw [State.vector_ne_zero_iff, State.attentionLine, Bool.and_eq_true]

/-- Settles O12: the request follows from its switch code, and the line from the nonzero codes of the unit's kinds. -/
theorem attentionEnableAndLine : Obligations.AttentionEnableAndLine :=
  ⟨fun _ _ _ _ htakes => exec_setAttention_accepted htakes,
    fun _ _ _ _ htakes hcode => exec_setAttention_badValue htakes hcode,
    fun p s => s.attentionLine_iff p⟩

end Sys2Proof.Machine
end

section
/-! PROOF. The discard of a bad frame (R172, R174): which test a frame fails first, and what the discard leaves of the
state. -/

namespace Sys2Proof.Machine

/-! ### The four tests (R174) -/

/-- The test for the start mark is passed by a frame that begins with it, and by one with no byte at all. -/
theorem startMark_passed {f : List Byte} (h : f = [] ∨ ∃ rest, f = startMark :: rest) :
    f.head?.any (· ≠ startMark) = false := by
  rcases h with rfl | ⟨rest, rfl⟩
  · rfl
  · simp

theorem badLength_iff (f : List Byte) : badLength f = true ↔
    f.length < 6 ∨ (f.getD 1 0).toNat < 2 ∨ 252 < (f.getD 1 0).toNat ∨ f.length ≠ (f.getD 1 0).toNat + 4 := by
  simp only [badLength, Bool.or_eq_true, decide_eq_true_eq, or_assoc]

/-- A length in range that agrees with the number of bytes passes; the least number of bytes follows from it. -/
theorem badLength_eq_false {f : List Byte} (hlow : 2 ≤ (f.getD 1 0).toNat)
    (hhigh : (f.getD 1 0).toNat ≤ 252) (hlen : f.length = (f.getD 1 0).toNat + 4) : badLength f = false := by
  rw [Bool.eq_false_iff, Ne, badLength_iff]
  omega

/-- In a frame whose length byte is right, the last two bytes are compared with the check of the bytes between them and
the start mark. -/
theorem badCheck_iff {body check : List Byte}
    (hbody : body.length = ((startMark :: (body ++ check)).getD 1 0).toNat + 1) :
    badCheck (startMark :: (body ++ check)) = true ↔ beNat check ≠ (checkOf body).toNat := by
  have hdrop : (startMark :: (body ++ check)).drop (body.length + 1) = check := by
    rw [List.drop_succ_cons, List.drop_left]
  have htake : ((startMark :: (body ++ check)).drop 1).take body.length = body := by
    rw [List.drop_succ_cons, List.drop_zero, List.take_left]
  rw [badCheck, bne_iff_ne, ← hbody, Nat.add_right_comm _ 1 1, ← hbody, hdrop, htake]

/-! ### The first test that fails names the cause (R174) -/

theorem judgeFrame_of_byteError (f : List Byte) : judgeFrame f true = some .byteError := rfl

theorem judgeFrame_of_other_mark {b : Byte} {rest : List Byte} (h : b ≠ startMark) :
    judgeFrame (b :: rest) false = some .startMark := by
  simp [judgeFrame, h]

theorem judgeFrame_of_badLength {f : List Byte} (hstart : f.head?.any (· ≠ startMark) = false)
    (hlen : badLength f = true) : judgeFrame f false = some .length := by
  rw [judgeFrame, hstart, hlen]
  rfl

theorem judgeFrame_of_badCheck {f : List Byte} (hstart : f.head?.any (· ≠ startMark) = false)
    (hlen : badLength f = false) (hcheck : badCheck f = true) : judgeFrame f false = some .check := by
  rw [judgeFrame, hstart, hlen, hcheck]
  rfl

/-! ### The discard (R172, R174) -/

/-- On a free port a judged frame leaves nothing but its cause, where LINK_FAULT was clear. -/
theorem exec_frameDiscard_of_judgeFrame {p : Port} {f : List Byte} {byteError : Bool} {cause : LinkCause} {s : State}
    (hfree : (s.port p).inService = false) (hjudge : judgeFrame f byteError = some cause) :
    exec (.frameDiscard p f byteError) s =
      .next (s.setPort p { s.port p with linkFault := some ((s.port p).linkFault.getD cause) }) := by
  have hdiscard : exec (.frameDiscard p f byteError) s = execFrameDiscard p f byteError s := rfl
  rw [hdiscard, execFrameDiscard, hfree, hjudge, ← State.noteLinkFault_eq]
  rfl

/-- Settles O6: each clause names the first test of R174 that its frame fails. -/
theorem badFramesAreDiscarded : Obligations.BadFramesAreDiscarded := by
  refine fun p f byteError s hfree => ⟨fun hbyte => ?_, fun hbyte hmark => ?_, fun hbyte hstart hlen => ?_,
    fun body check hbyte hframe hcheck _ hlow hhigh hlen hdiffers => ?_⟩
  · subst hbyte
    exact exec_frameDiscard_of_judgeFrame hfree (judgeFrame_of_byteError f)
  · obtain ⟨b, rest, rfl, hb⟩ := hmark
    subst hbyte
    exact exec_frameDiscard_of_judgeFrame hfree (judgeFrame_of_other_mark hb)
  · subst hbyte
    exact exec_frameDiscard_of_judgeFrame hfree
      (judgeFrame_of_badLength (startMark_passed hstart) ((badLength_iff f).mpr hlen))
  · have hbody : body.length = (f.getD 1 0).toNat + 1 := by
      have hcount : f.length = body.length + check.length + 1 := by
        rw [hframe, List.length_cons, List.length_append]
      omega
    have hgood : badLength f = false := badLength_eq_false hlow hhigh hlen
    subst hbyte hframe
    exact exec_frameDiscard_of_judgeFrame hfree
      (judgeFrame_of_badCheck (startMark_passed (.inr ⟨_, rfl⟩)) hgood ((badCheck_iff hbody).mpr hdiffers))

end Sys2Proof.Machine
end

section
/-! PROOF. Steps 1 and 2 of R177: a request is refused for its code or its length before its port, and for its port
before its owning block sees it. -/

namespace Sys2Proof.Machine

/-! ### The first two refusals of a taken request (R177) -/

/-- A code outside the catalogue is no other command's, so its frame is the request itself (R178). -/
theorem requestOf_unknownRequestCode {code : Byte} (h : code ∉ catalogue) (p : Port) (tag : Byte)
    (payload : List Byte) : requestOf (.unknownRequestCode p code tag payload) = some ⟨p, code, tag, payload⟩ :=
  if_neg h

/-- Step 1 asks for a code of the catalogue and for the length that the request needs. -/
theorem exec_badRequest {c : Instr} {q : Request} {s : State} (hq : requestOf c = some q) (htakes : s.takes q)
    (hbad : q.code ∈ catalogue → q.payload.length ≠ q.neededLength) :
    exec c s = .next (s.answered q .badRequest []) := by
  obtain ⟨lengthOk, permitted, body, hexec, hknown, hunknown⟩ := exec_request c q hq
  have hlength : lengthOk = false := by
    by_cases hcode : q.code ∈ catalogue
    · rw [(hknown hcode).1, beq_eq_false_iff_ne]
      exact hbad hcode
    · exact hunknown hcode
  rw [hexec, serve_taken _ _ _ _ _ htakes, hlength, judged_badRequest]

/-- Step 2, reached by a request that passes step 1, asks for a port that may send it. -/
theorem exec_notPermitted {c : Instr} {q : Request} {s : State} (hq : requestOf c = some q) (htakes : s.takes q)
    (hcode : q.code ∈ catalogue) (hlen : q.payload.length = q.neededLength) (hport : q.mayBeSent = false) :
    exec c s = .next (s.answered q .notPermitted []) := by
  obtain ⟨lengthOk, permitted, body, hexec, hknown, -⟩ := exec_request c q hq
  obtain ⟨hlength, hpermitted⟩ := hknown hcode
  rw [hexec, serve_taken _ _ _ _ _ htakes, hlength, beq_iff_eq.mpr hlen, hpermitted, hport, judged_notPermitted]

/-- Settles O7: an unknown code and a wrong length fail step 1, and a port that may not send fails step 2. -/
theorem codeLengthAndPortAreChecked : Obligations.CodeLengthAndPortAreChecked := by
  refine ⟨fun p code tag payload s hcode htakes => ?_,
    fun c q s hq htakes hcode => ⟨fun hlen => ?_, fun hlen hport => ?_⟩⟩
  · exact exec_badRequest (requestOf_unknownRequestCode hcode p tag payload) htakes fun hknown => absurd hknown hcode
  · exact exec_badRequest hq htakes fun _ => hlen
  · exact exec_notPermitted hq htakes hcode hlen hport

end Sys2Proof.Machine
end

section
/-! PROOF. The laws that every step keeps (R61, R70, R128, R144, R150, R154, R172, R175). What a command makes of the
module is said once, as a relation with one constructor for each kind of event; a law that every event keeps is then kept
by every step. -/

namespace Sys2Proof.Machine

/-! ### What an event makes of the module -/

/-- What a command makes of the state `s`, apart from the answer on the link. -/
inductive Event (s : State) : State → Prop
  | none : Event s s
  | powerOn : Event s { State.reset with pending := s.pending, draws := s.draws, grants := s.grants }
  | linkFaultRead (p : Port) : Event s (s.setPort p { s.port p with linkFault := .none })
  | poll (p : Port) (k : EventKind) : Event s (s.modUnit p fun u => u.polled k)
  | attention (p : Port) (on : Bool) : Event s (s.modUnit p fun u => { u with attention := on })
  | post (l : Lane) (o : Order) : Event s (s.storeOrder l o)
  | release (l : Lane) : Event s (s.releaseOrder l)
  | discard (l : Lane) (k : SlotId) (o : Order) : Event s (s.discardOrder l k o)
  | withdraw (l : Lane) (k : SlotId) (o : Order) : Event s (s.withdraw l k o)
  | abort (l : Lane) (k : SlotId) (o : Order) : Event s (s.abortOrder l k o)
  | policy (l : Lane) (p : Policy) (n : Nat) : Event s (s.modOm l fun om => { om with policy := p, threshold := n })
  | laneReset (l : Lane) : Event s (s.laneReset l)
  | resume (d : Decision) (l : Lane) (k : SlotId) (i : Nat) (j : Joint) : Event s (s.resume d l k i j)
  | cueTaken (l : Lane) (k : SlotId) (i : Nat) :
      Event s (s.modJoint l k i fun j => { j with state := .ready }).arbitrate
  | cueHeld (h : HeadId) : Event s (s.modHead h fun r => { r with cueLatch := true })
  | recipe (r : RecipeId) (x : Option Recipe) : Event s (s.setRecipe r x)
  | binding (n : BindingId) (b : Option Binding) : Event s (s.setBinding n b)
  | family (f : BitVec 64) (d : LaneTbl (Option BindingId)) : Event s { s with family := f, defaults := d }
  | writeHead (h : HeadId) (x : HeadSettings) : Event s (s.writeHead h x)
  | mask (w : HeadId → Bool) : Event s ((s.setMasks w true).liftStays w).arbitrate
  | unmask (w : HeadId → Bool) : Event s (s.setMasks w false).arbitrate
  | clearHealth (h : HeadId) (n : Nat) : Event s (s.clearHealth h n)
  | budget (n : Nat) : Event s (s.modArbiter fun a => { a with budget := n }).arbitrate
  | restore (c : ChannelId) : Event s (s.modChan c ChannelRec.restore).arbitrate
  | acknowledge (l : Lane) (n : Nat) : Event s (s.acknowledge l n)
  | reader (l : Lane) (r : Reader) : Event s (s.changeReader l r)
  | response (c : AbortCause) (r : Response) : Event s (s.setFaults (s.faults.setResponse c r))
  | clearErrors (h : s.mode ≠ .quenched) : Event s (s.setFaults s.faults.clearErrors)
  | cabinetReset (h : s.mode ≠ .unconfigured) : Event s s.cabinetReset
  | setUp (h : s.mode = .unconfigured) (x : Setup) : Event s (s.setUp x)
  | enterProof (h : s.mode = .live) : Event s s.enterProof
  | leaveProof (h : s.mode = .proof) : Event s s.leaveProof
  | reading (h : HeadId) (v : Nat) : Event s (s.storeReading h v)
  | sensorExpiry (h : HeadId) (n : Nat) : Event s ((s.elapse n).takeSensorExpiry h)
  | coolantOk (h : HeadId) : Event s (s.modHead h fun r => { r with coolant := .ok })
  | coolantLow (h : HeadId) : Event s ((s.modHead h fun r => { r with coolant := .low }).coolantLow h)
  | inputReturn (i : CabinetInput) : Event s (s.setFaults (s.faults.setAlarm i false))
  | inputAlarm (i : CabinetInput) : Event s ((s.setFaults (s.faults.setAlarm i true)).inputCause i)
  | inverter (c : ChannelId) : Event s (s.inverterFault c).arbitrate
  | matrix (c : ChannelId) : Event s (s.matrixFault c).arbitrate
  | energy (c : ChannelId) : Event s (s.segmentEnd c .energy).arbitrate
  | segmentTime (c : ChannelId) (n : Nat) : Event s ((s.elapse n).segmentEnd c .time).arbitrate
  | move (c : ChannelId) (confirmed load : Bool) (n : Nat) :
      Event s ((s.elapse n).moveCompletes c confirmed load).arbitrate
  | activation (l : Lane) : Event s (s.tryActivation l).arbitrate
  | naming : Event s s.nameCandidate.arbitrate
  | grant (p : GrantPlan) (h : s.grantPlan = some p) : Event s (s.grant p).arbitrate
  | deadline (l : Lane) (n : Nat) : Event s ((s.elapse n).takeDeadline l)
  | cooled (h : HeadId) (n : Nat) : Event s ((s.elapse n).takeCooled h)
  | settled (n : Nat) (h : s.cabinet.settlingTimer.isSome) : Event s (s.elapse n).takeSettled

/-! ### The bodies of the requests -/

theorem state_of_ok {s u : State} {x y : List Byte} (h : (.ok (s, y) : Answered) = .ok (u, x)) : u = s := by
  injection h with h; injection h with h; exact h.symm

theorem ok_of_needSetup {s u : State} {r : Answered} {x : List Byte} (h : needSetup s r = .ok (u, x)) :
    s.mode ≠ .unconfigured ∧ r = .ok (u, x) := by
  obtain ⟨hmode, hr⟩ := ok_of_need h
  exact ⟨bne_iff_ne.mp hmode, hr⟩

theorem ok_of_needMode {s u : State} {r : Answered} {x : List Byte} (h : needMode s r = .ok (u, x)) :
    s.mode ≠ .unconfigured ∧ s.mode ≠ .quenched ∧ r = .ok (u, x) := by
  obtain ⟨hsetup, hrest⟩ := ok_of_needSetup h
  obtain ⟨hmode, hr⟩ := ok_of_need hrest
  exact ⟨hsetup, bne_iff_ne.mp hmode, hr⟩

/-- A body that accepts answers the state of an event. -/
def AnswersEvent (body : State → Answered) : Prop := ∀ s u x, body s = .ok (u, x) → Event s u

theorem readStatusBody_event (p : Port) : AnswersEvent (readStatusBody p) := by
  rintro s u x h; cases h; exact .linkFaultRead p

theorem pollBody_event (p : Port) : AnswersEvent (pollBody p) := by
  intro s u x h
  unfold pollBody at h
  split at h
  · cases h; exact .none
  · cases h; exact .poll p _

theorem setAttentionBody_event (p : Port) (y : List Byte) : AnswersEvent (setAttentionBody p y) := by
  intro s u x h
  unfold setAttentionBody at h
  split at h
  · cases h
  · cases h; exact .attention p _

theorem postOrderBody_event (y : List Byte) (l : Lane) : AnswersEvent (postOrderBody y l) := by
  intro s u x h
  obtain ⟨-, -, hr⟩ := ok_of_needMode (ok_of_need h).2
  replace hr := (ok_of_need hr).2
  split at hr
  · cases hr
  · have hr := (ok_of_need (ok_of_need (ok_of_need hr).2).2).2
    cases hr; exact .post l _

theorem releaseBody_event (l : Lane) : AnswersEvent (releaseBody l) := by
  intro s u x h
  obtain ⟨-, -, hr⟩ := ok_of_needMode h
  have hr := (ok_of_need hr).2
  cases hr; exact .release l

theorem discardBody_event (l : Lane) : AnswersEvent (discardBody l) := by
  intro s u x h
  obtain ⟨-, -, hr⟩ := ok_of_needMode h
  split at hr
  · cases hr
  · cases hr; exact .discard l _ _

theorem abortOrderBody_event (y : List Byte) (l : Lane) : AnswersEvent (abortOrderBody y l) := by
  intro s u x h
  obtain ⟨-, hr⟩ := ok_of_needSetup (ok_of_need h).2
  dsimp only at hr
  split at hr
  · cases hr
  · split at hr
    · have hr := (ok_of_need hr).2
      cases hr; exact .withdraw l _ _
    · cases hr; exact .abort l _ _

theorem setLanePolicyBody_event (y : List Byte) (l : Lane) : AnswersEvent (setLanePolicyBody y l) := by
  intro s u x h
  unfold setLanePolicyBody at h
  split at h
  · cases h
  · obtain ⟨-, hr⟩ := ok_of_needSetup (ok_of_need h).2
    have hr := (ok_of_need hr).2
    cases hr; exact .policy l _ _

theorem laneResetBody_event (p : Port) (y : List Byte) : AnswersEvent (laneResetBody p y) := by
  intro s u x h
  unfold laneResetBody at h
  split at h
  · cases h
  · cases h; exact .laneReset _

theorem resumeBody_event (y : List Byte) (l : Lane) : AnswersEvent (resumeBody y l) := by
  intro s u x h
  unfold resumeBody at h
  split at h
  · cases h
  · obtain ⟨-, -, hr⟩ := ok_of_needMode h
    split at hr
    · cases hr
    · replace hr := (ok_of_need hr).2
      split at hr
      · cases hr
      · split at hr
        · cases hr
        · have hr := (ok_of_need hr).2
          cases hr; exact .resume _ l _ _ _

theorem cueBody_event (y : List Byte) (l : Lane) : AnswersEvent (cueBody y l) := by
  intro s u x h
  obtain ⟨-, -, hr⟩ := ok_of_needMode (ok_of_need h).2
  replace hr := (ok_of_need hr).2
  split at hr
  · cases hr; exact .cueTaken _ _ _
  · have hr := (ok_of_need hr).2
    cases hr; exact .cueHeld _

theorem writeRecipeBody_event (y : List Byte) : AnswersEvent (writeRecipeBody y) := by
  intro s u x h
  obtain ⟨-, -, hr⟩ := ok_of_needMode (ok_of_need h).2
  have hr := (ok_of_need (ok_of_need hr).2).2
  cases hr; exact .recipe _ _

theorem clearRecipeBody_event (y : List Byte) : AnswersEvent (clearRecipeBody y) := by
  intro s u x h
  obtain ⟨-, hr⟩ := ok_of_needSetup (ok_of_need h).2
  have hr := (ok_of_need hr).2
  cases hr; exact .recipe _ _

theorem writeBindingBody_event (y : List Byte) : AnswersEvent (writeBindingBody y) := by
  intro s u x h
  obtain ⟨-, -, hr⟩ := ok_of_needMode (ok_of_need h).2
  have hr := (ok_of_need hr).2
  cases hr; exact .binding _ _

theorem clearBindingBody_event (y : List Byte) : AnswersEvent (clearBindingBody y) := by
  intro s u x h
  obtain ⟨-, hr⟩ := ok_of_needSetup (ok_of_need h).2
  cases hr; exact .binding _ _

theorem setFamilyBody_event (y : List Byte) : AnswersEvent (setFamilyBody y) := by
  intro s u x h
  obtain ⟨-, -, hr⟩ := ok_of_needMode (ok_of_need h).2
  cases hr; exact .family _ _

theorem writeHeadBody_event (y : List Byte) : AnswersEvent (writeHeadBody y) := by
  intro s u x h
  unfold writeHeadBody at h
  split at h
  · cases h
  · obtain ⟨-, -, hr⟩ := ok_of_needMode h
    have hr := (ok_of_need hr).2
    cases hr; exact .writeHead _ _

theorem maskHeadsBody_event (y : List Byte) : AnswersEvent (maskHeadsBody y) := by
  intro s u x h
  obtain ⟨-, hr⟩ := ok_of_needSetup h
  cases hr; exact .mask _

theorem unmaskHeadsBody_event (y : List Byte) : AnswersEvent (unmaskHeadsBody y) := by
  intro s u x h
  obtain ⟨-, -, hr⟩ := ok_of_needMode h
  cases hr; exact .unmask _

theorem clearHeadHealthBody_event (y : List Byte) : AnswersEvent (clearHeadHealthBody y) := by
  intro s u x h
  obtain ⟨-, hr⟩ := ok_of_needSetup (ok_of_need h).2
  cases hr; exact .clearHealth _ _

theorem setBudgetBody_event (y : List Byte) : AnswersEvent (setBudgetBody y) := by
  intro s u x h
  obtain ⟨-, -, hr⟩ := ok_of_needMode (ok_of_need h).2
  cases hr; exact .budget _

theorem restoreChannelBody_event (y : List Byte) : AnswersEvent (restoreChannelBody y) := by
  intro s u x h
  obtain ⟨-, -, hr⟩ := ok_of_needMode (ok_of_need h).2
  cases hr; exact .restore _

theorem ackResultsBody_event (p : Port) (y : List Byte) : AnswersEvent (ackResultsBody p y) := by
  intro s u x h
  unfold ackResultsBody at h
  split at h
  · cases h
  · have hr := (ok_of_need (ok_of_need (ok_of_need h).2).2).2
    cases hr; exact .acknowledge _ _

theorem setReaderBody_event (y : List Byte) : AnswersEvent (setReaderBody y) := by
  intro s u x h
  unfold setReaderBody at h
  split at h
  · obtain ⟨-, hr⟩ := ok_of_needSetup h
    cases hr; exact .reader _ _
  · cases h
  · cases h

theorem setResponseBody_event (y : List Byte) : AnswersEvent (setResponseBody y) := by
  intro s u x h
  unfold setResponseBody at h
  split at h
  · obtain ⟨-, hr⟩ := ok_of_needSetup h
    cases hr; exact .response _ _
  · cases h
  · cases h

theorem clearErrorsBody_event : AnswersEvent clearErrorsBody := by
  intro s u x h
  obtain ⟨-, hmode, hr⟩ := ok_of_needMode h
  cases hr; exact .clearErrors hmode

theorem cabinetResetBody_event : AnswersEvent cabinetResetBody := by
  intro s u x h
  obtain ⟨hmode, hr⟩ := ok_of_needSetup h
  cases hr; exact .cabinetReset hmode

theorem cabinetSetupBody_event (y : List Byte) : AnswersEvent (cabinetSetupBody y) := by
  intro s u x h
  obtain ⟨hmode, hr⟩ := ok_of_need (ok_of_need h).2
  cases hr; exact .setUp (beq_iff_eq.mp hmode) _

theorem enterProofBody_event : AnswersEvent enterProofBody := by
  intro s u x h
  obtain ⟨-, -, hr⟩ := ok_of_needMode h
  obtain ⟨hmode, hr⟩ := ok_of_need hr
  have hr := (ok_of_need hr).2
  rw [state_of_ok hr]; exact .enterProof (beq_iff_eq.mp hmode)

theorem leaveProofBody_event : AnswersEvent leaveProofBody := by
  intro s u x h
  obtain ⟨-, -, hr⟩ := ok_of_needMode h
  obtain ⟨hmode, hr⟩ := ok_of_need hr
  have hr := (ok_of_need hr).2
  rw [state_of_ok hr]; exact .leaveProof (beq_iff_eq.mp hmode)

/-- A read, and a body that refuses everything, leave the state as it is. -/
theorem readRecipeBody_event (y : List Byte) : AnswersEvent (readRecipeBody y) := by
  intro s u x h
  have hr := (ok_of_need h).2
  cases hr; exact .none

theorem readBindingBody_event (y : List Byte) : AnswersEvent (readBindingBody y) := by
  intro s u x h
  have hr := (ok_of_need h).2
  cases hr; exact .none

theorem readHeadBody_event (y : List Byte) : AnswersEvent (readHeadBody y) := by
  intro s u x h
  have hr := (ok_of_need h).2
  cases hr; exact .none

theorem readErrorLogBody_event : AnswersEvent readErrorLogBody := by
  rintro s u x h; cases h; exact .none

theorem readResultsBody_event (p : Port) (y : List Byte) : AnswersEvent (readResultsBody p y) := by
  intro s u x h
  unfold readResultsBody at h
  split at h
  · cases h
  · have hr := (ok_of_need (ok_of_need h).2).2
    cases hr; exact .none

theorem unknownBody_event : AnswersEvent fun _ => .error .badRequest := by
  rintro s u x h; cases h

/-- A body that lane ports ask, as the port's own lane's. -/
theorem laneBody_event {p : Port} {body : Lane → State → Answered} (h : ∀ l, AnswersEvent (body l)) :
    AnswersEvent fun t => match portLane p with
      | some l => body l t
      | none => .error .notPermitted := by
  intro s u x hx
  dsimp only at hx
  split at hx
  · exact h _ s u x hx
  · cases hx

/-- Every request is served by a body that answers the state of an event. -/
theorem exec_request_event (c : Instr) (q : Request) (h : requestOf c = some q) :
    ∃ (lengthOk permitted : Bool) (body : State → Answered),
      (∀ s, exec c s = serve q lengthOk permitted body s) ∧ AnswersEvent body := by
  cases c <;> simp only [requestOf, reduceCtorEq, Option.some.injEq, Option.ite_none_left_eq_some] at h
  case unknownRequestCode =>
    obtain ⟨hcode, rfl⟩ := h
    exact ⟨false, true, fun _ => .error .badRequest,
      fun s => by simp [exec, execUnknownRequestCode, hcode, serveAny], unknownBody_event⟩
  all_goals subst h
  case readStatus => exact ⟨_, _, _, fun _ => rfl, readStatusBody_event _⟩
  case pollEvent => exact ⟨_, _, _, fun _ => rfl, pollBody_event _⟩
  case setAttention => exact ⟨_, _, _, fun _ => rfl, setAttentionBody_event _ _⟩
  case postOrder => exact ⟨_, _, _, fun _ => rfl, laneBody_event (postOrderBody_event _)⟩
  case release => exact ⟨_, _, _, fun _ => rfl, laneBody_event releaseBody_event⟩
  case discard => exact ⟨_, _, _, fun _ => rfl, laneBody_event discardBody_event⟩
  case abortOrder => exact ⟨_, _, _, fun _ => rfl, laneBody_event (abortOrderBody_event _)⟩
  case setLanePolicy => exact ⟨_, _, _, fun _ => rfl, laneBody_event (setLanePolicyBody_event _)⟩
  case laneReset => exact ⟨_, _, _, fun _ => rfl, laneResetBody_event _ _⟩
  case resumeRetry => exact ⟨_, _, _, fun _ => rfl, laneBody_event (resumeBody_event _)⟩
  case resumeSkip => exact ⟨_, _, _, fun _ => rfl, laneBody_event (resumeBody_event _)⟩
  case cue => exact ⟨_, _, _, fun _ => rfl, laneBody_event (cueBody_event _)⟩
  case writeRecipe => exact ⟨_, _, _, fun _ => rfl, writeRecipeBody_event _⟩
  case clearRecipe => exact ⟨_, _, _, fun _ => rfl, clearRecipeBody_event _⟩
  case readRecipe => exact ⟨_, _, _, fun _ => rfl, readRecipeBody_event _⟩
  case writeBinding => exact ⟨_, _, _, fun _ => rfl, writeBindingBody_event _⟩
  case clearBinding => exact ⟨_, _, _, fun _ => rfl, clearBindingBody_event _⟩
  case setFamily => exact ⟨_, _, _, fun _ => rfl, setFamilyBody_event _⟩
  case readBinding => exact ⟨_, _, _, fun _ => rfl, readBindingBody_event _⟩
  case writeHead => exact ⟨_, _, _, fun _ => rfl, writeHeadBody_event _⟩
  case maskHeads => exact ⟨_, _, _, fun _ => rfl, maskHeadsBody_event _⟩
  case unmaskHeads => exact ⟨_, _, _, fun _ => rfl, unmaskHeadsBody_event _⟩
  case clearHeadHealth => exact ⟨_, _, _, fun _ => rfl, clearHeadHealthBody_event _⟩
  case readHead => exact ⟨_, _, _, fun _ => rfl, readHeadBody_event _⟩
  case setBudget => exact ⟨_, _, _, fun _ => rfl, setBudgetBody_event _⟩
  case restoreChannel => exact ⟨_, _, _, fun _ => rfl, restoreChannelBody_event _⟩
  case readResults => exact ⟨_, _, _, fun _ => rfl, readResultsBody_event _ _⟩
  case ackResults => exact ⟨_, _, _, fun _ => rfl, ackResultsBody_event _ _⟩
  case setReader => exact ⟨_, _, _, fun _ => rfl, setReaderBody_event _⟩
  case setResponse => exact ⟨_, _, _, fun _ => rfl, setResponseBody_event _⟩
  case readErrorLog => exact ⟨_, _, _, fun _ => rfl, readErrorLogBody_event⟩
  case clearErrors => exact ⟨_, _, _, fun _ => rfl, clearErrorsBody_event⟩
  case cabinetReset => exact ⟨_, _, _, fun _ => rfl, cabinetResetBody_event⟩
  case cabinetSetup => exact ⟨_, _, _, fun _ => rfl, cabinetSetupBody_event _⟩
  case enterProof => exact ⟨_, _, _, fun _ => rfl, enterProofBody_event⟩
  case leaveProof => exact ⟨_, _, _, fun _ => rfl, leaveProofBody_event⟩

/-! ### The commands that are no requests -/

/-- What a frame that is no request, or the end of an answer, makes of its port. -/
inductive LinkEvent (s : State) : State → Prop
  | none : LinkEvent s s
  | drop (p : Port) (f : List Byte) (h : (s.port p).inService = true) : LinkEvent s (s.dropFrame p f)
  | note (p : Port) (c : LinkCause) : LinkEvent s (s.noteLinkFault p c)
  | sent (p : Port) : LinkEvent s (s.setPort p { s.port p with rx := .none, inService := false })

/-- A command that is no request is an event or a link event; it never stops the module. -/
theorem exec_other (c : Instr) (s : State) (hc : requestOf c = none) :
    ∃ t, exec c s = .next t ∧ (Event s t ∨ LinkEvent s t) := by
  cases c <;> simp only [requestOf, reduceCtorEq, ite_eq_left_iff, imp_false, not_not] at hc
  case powerOn => exact ⟨_, rfl, .inl .powerOn⟩
  case unknownRequestCode => exact ⟨s, by simp [exec, execUnknownRequestCode, hc], .inl .none⟩
  case frameDiscard p f e =>
    simp only [exec, execFrameDiscard]
    split
    · rename_i hb; exact ⟨_, rfl, .inr (.drop p f hb)⟩
    · split
      · exact ⟨_, rfl, .inr (.note p _)⟩
      · exact ⟨_, rfl, .inr .none⟩
  case frameDroppedOverrun x =>
    simp only [exec, execFrameDroppedOverrun]
    split
    · rename_i hb; exact ⟨_, rfl, .inr (.drop _ _ hb)⟩
    · exact ⟨_, rfl, .inr .none⟩
  case answerSent p =>
    simp only [exec, execAnswerSent]
    split
    · exact ⟨_, rfl, .inr (.sent p)⟩
    · exact ⟨_, rfl, .inr .none⟩
  case pyrometerReading h v =>
    simp only [exec, execPyrometerReading]
    split
    · exact ⟨_, rfl, .inl .none⟩
    · split
      · exact ⟨_, rfl, .inl (.reading h _)⟩
      · exact ⟨_, rfl, .inl .none⟩
  case sensorTimerExpiry h =>
    simp only [exec, execSensorTimerExpiry]
    split
    · exact ⟨_, rfl, .inl .none⟩
    · exact ⟨_, rfl, .inl (.sensorExpiry h _)⟩
  case coolantSwitchReport h w =>
    cases w with
    | ok => exact ⟨_, rfl, .inl (.coolantOk h)⟩
    | low => exact ⟨_, rfl, .inl (.coolantLow h)⟩
  case cabinetInputChange i b =>
    simp only [exec, execCabinetInputChange]
    split
    · exact ⟨_, rfl, .inl .none⟩
    · cases b with
      | false => exact ⟨_, rfl, .inl (.inputReturn i)⟩
      | true => exact ⟨_, rfl, .inl (.inputAlarm i)⟩
  case inverterFaultReport c => exact ⟨_, rfl, .inl (.inverter c)⟩
  case matrixFaultReport c => exact ⟨_, rfl, .inl (.matrix c)⟩
  case energyReport c n k =>
    simp only [exec, execEnergyReport]
    split
    · exact ⟨_, rfl, .inl (.energy c)⟩
    · exact ⟨_, rfl, .inl .none⟩
  case segmentTimerExpiry c =>
    simp only [exec, execSegmentTimerExpiry]
    split
    · exact ⟨_, rfl, .inl .none⟩
    · exact ⟨_, rfl, .inl (.segmentTime c _)⟩
  case moveCompletion c b d =>
    simp only [exec, execMoveCompletion]
    split
    · exact ⟨_, rfl, .inl .none⟩
    · split
      · exact ⟨_, rfl, .inl (.move c b d _)⟩
      · exact ⟨_, rfl, .inl .none⟩
  case activation l =>
    simp only [exec, execActivation]
    split
    · exact ⟨_, rfl, .inl (.activation l)⟩
    · exact ⟨_, rfl, .inl .none⟩
  case candidateNaming =>
    simp only [exec, execCandidateNaming]
    split
    · exact ⟨_, rfl, .inl .naming⟩
    · exact ⟨_, rfl, .inl .none⟩
  case grant =>
    simp only [exec, execGrant]
    split
    · rename_i p hp; exact ⟨_, rfl, .inl (.grant p hp)⟩
    · exact ⟨_, rfl, .inl .none⟩
  case deadlineExpiry l =>
    simp only [exec, execDeadlineExpiry]
    split
    · exact ⟨_, rfl, .inl .none⟩
    · exact ⟨_, rfl, .inl (.deadline l _)⟩
  case coolUntilExpiry h =>
    simp only [exec, execCoolUntilExpiry]
    split
    · exact ⟨_, rfl, .inl .none⟩
    · exact ⟨_, rfl, .inl (.cooled h _)⟩
  case settlingExpiry =>
    simp only [exec, execSettlingExpiry]
    split
    · exact ⟨_, rfl, .inl .none⟩
    · rename_i left hleft; exact ⟨_, rfl, .inl (.settled left (by simp [hleft]))⟩

/-! ### A law that every event keeps is kept by every step -/

theorem exec_next (c : Instr) (s : State) : ∃ t, exec c s = .next t := by
  cases h : requestOf c with
  | none =>
    obtain ⟨t, ht, -⟩ := exec_other c s h
    exact ⟨t, ht⟩
  | some q =>
    obtain ⟨lengthOk, permitted, body, hexec, -⟩ := exec_request_event c q h
    rw [hexec]
    exact serve_next _ _ _ _ _

theorem exec_keeps {P : State → Prop} (hevent : ∀ s t, Event s t → P s → P t)
    (hlink : ∀ s t, LinkEvent s t → P s → P t) (hans : ∀ s q code x, P s → P (State.answered s q code x))
    {c : Instr} {s t : State} (hs : P s) (h : exec c s = .next t) : P t := by
  cases hc : requestOf c with
  | none =>
    obtain ⟨u, hu, he⟩ := exec_other c s hc
    obtain rfl : u = t := by rw [hu] at h; cases h; rfl
    exact he.elim (fun he => hevent _ _ he hs) fun he => hlink _ _ he hs
  | some q =>
    obtain ⟨lengthOk, permitted, body, hexec, hbody⟩ := exec_request_event c q hc
    exact serve_keeps hans (fun s p f hb => hlink _ _ (.drop p f hb)) (fun s p c => hlink _ _ (.note p c)) hs
      (fun u x hx => hevent _ _ (hbody s u x hx) hs) ((hexec s).symm.trans h)

/-- The queue of waiting commands and the passing of 1 ms are the rest of a step. -/
theorem step_keeps {P : State → Prop} (hevent : ∀ s t, Event s t → P s → P t)
    (hlink : ∀ s t, LinkEvent s t → P s → P t) (hans : ∀ s q code x, P s → P (State.answered s q code x))
    (hqueue : ∀ s rest, P s → P { s with pending := rest }) (htick : ∀ s, P s → P (State.elapse s 1))
    (s t : State) (hs : P s) (h : step s = .next t) : P t := by
  unfold step at h
  split at h
  · cases h; exact htick s hs
  · exact exec_keeps hevent hlink hans (hqueue s _ hs) h

/-- Settles O4: a request is served with an answer, a drop or a link fault, and every other command is an event. -/
theorem everyStepAnswersNext : Obligations.EveryStepAnswersNext := by
  refine ⟨exec_next, fun s => ?_⟩
  unfold step
  split
  · exact ⟨_, rfl⟩
  · exact exec_next _ _

end Sys2Proof.Machine
end

section
/-! PROOF. The cabinet law and the link law (R144, R150, R154, R158, R172, R175): most events leave the blocks that the
two laws speak of; the few that write them are looked at one by one. -/

namespace Sys2Proof.Machine

/-! ### Events that leave the queue, the links, the bindings, Fault Control and Cabinet Control -/

variable (s : State)

@[simp] theorem State.releaseOrder_outer (l : Lane) : (s.releaseOrder l).outer = s.outer := by
  simp [State.releaseOrder]
@[simp] theorem State.storeOrder_outer (l : Lane) (o : Order) : (s.storeOrder l o).outer = s.outer := by
  simp [State.storeOrder]
@[simp] theorem State.discardOrder_outer (l : Lane) (k : SlotId) (o : Order) :
    (s.discardOrder l k o).outer = s.outer := by
  unfold State.discardOrder
  split
  · rfl
  · simp [State.windDown_outer]
@[simp] theorem State.withdraw_outer (l : Lane) (k : SlotId) (o : Order) : (s.withdraw l k o).outer = s.outer := by
  simp [State.withdraw]
@[simp] theorem State.abortChannel_outer (l : Lane) (k : SlotId) (c : ChannelId) :
    (State.abortChannel l k s c).outer = s.outer := by
  unfold State.abortChannel
  (repeat' split) <;> simp
@[simp] theorem State.abortOrder_outer (l : Lane) (k : SlotId) (o : Order) : (s.abortOrder l k o).outer = s.outer := by
  unfold State.abortOrder
  split
  · rfl
  · simp only [State.arbitrate_outer, State.completionCheck_outer]
    rw [State.foldl_outer _ (fun t c => t.abortChannel_outer l k c), State.windDown_outer, State.modOrder_outer]
@[simp] theorem State.dropLaneRefs_outer (l : Lane) : (s.dropLaneRefs l).outer = s.outer :=
  State.foldl_outer _ (fun t k => by cases s.order l k <;> simp) _ _
@[simp] theorem State.removeAttempt_outer (l : Lane) (c : ChannelId) : (State.removeAttempt l s c).outer = s.outer := by
  unfold State.removeAttempt
  (repeat' split) <;> simp
@[simp] theorem State.laneReset_outer (l : Lane) : (s.laneReset l).outer = s.outer := by
  simp only [State.laneReset, State.arbitrate_outer, State.modUnit_eq, State.setUnit_outer,
    State.dropCandidateIf_outer, State.liftStays_outer, State.clearLaneHeads, State.mapHeads_outer, State.emptyRing,
    State.reportResults_outer, State.modRing_eq, State.setRing_outer]
  rw [State.foldl_outer _ (fun t c => t.removeAttempt_outer l c)]
  simp
@[simp] theorem State.resume_outer (d : Decision) (l : Lane) (k : SlotId) (i : Nat) (j : Joint) :
    (s.resume d l k i j).outer = s.outer := by
  cases d with
  | retry => simp [State.resume, State.retryJoint, State.popHalted]
  | skip => simp [State.resume, State.skipJoint, State.popHalted]
@[simp] theorem State.writeHead_outer (h : HeadId) (x : HeadSettings) : (s.writeHead h x).outer = s.outer := by
  simp only [State.writeHead, State.arbitrate_outer]
  split <;> simp
@[simp] theorem State.setMasks_outer (w : HeadId → Bool) (b : Bool) : (s.setMasks w b).outer = s.outer := rfl
@[simp] theorem State.clearHealth_outer (h : HeadId) (n : Nat) : (s.clearHealth h n).outer = s.outer := by
  simp only [State.clearHealth, State.arbitrate_outer]
  split <;> simp
@[simp] theorem State.removeOldest_outer (l : Lane) (n : Nat) : (s.removeOldest l n).outer = s.outer := by
  unfold State.removeOldest
  dsimp only
  split <;> simp
@[simp] theorem State.acknowledge_outer (l : Lane) (n : Nat) : (s.acknowledge l n).outer = s.outer := by
  simp [State.acknowledge]
@[simp] theorem State.notePeak_outer (c : ChannelId) (v : Nat) : (s.notePeak c v).outer = s.outer := rfl
@[simp] theorem State.takeReading_outer (c : ChannelId) (h : HeadId) (v : Nat) :
    (s.takeReading c h v).outer = s.outer := by
  unfold State.takeReading
  dsimp only
  (repeat' split) <;> simp
@[simp] theorem State.storeReading_outer (h : HeadId) (v : Nat) : (s.storeReading h v).outer = s.outer := by
  unfold State.storeReading
  dsimp only
  (repeat' split) <;> simp
@[simp] theorem State.takeSensorExpiry_outer (h : HeadId) : (s.takeSensorExpiry h).outer = s.outer := by
  unfold State.takeSensorExpiry
  dsimp only
  (repeat' split) <;> simp
@[simp] theorem State.takeDeadline_outer (l : Lane) : (s.takeDeadline l).outer = s.outer := by
  unfold State.takeDeadline
  split
  · simp
  · simp [State.windDown_outer]
@[simp] theorem State.takeCooled_outer (h : HeadId) : (s.takeCooled h).outer = s.outer := by
  unfold State.takeCooled
  dsimp only
  (repeat' split) <;> simp
@[simp] theorem State.unparkAll_outer : s.unparkAll.outer = s.outer := by
  unfold State.unparkAll
  rw [State.liftStays_outer, State.foldl_outer _ (fun t c => by unfold State.unparkIdle; split <;> simp)]

/-! ### The stop of the work keeps the same blocks -/

@[simp] theorem State.interruptAttempt_outer (c : ChannelId) : (s.interruptAttempt c).outer = s.outer := by
  unfold State.interruptAttempt
  dsimp only
  split <;> simp
@[simp] theorem State.stopChannel_outer (c : ChannelId) : (s.stopChannel c).outer = s.outer := by
  unfold State.stopChannel
  dsimp only
  split <;> simp
@[simp] theorem State.stopWork_outer : s.stopWork.outer = s.outer := by
  simp only [State.stopWork, State.interruptLane_outer, State.modArbiter_eq, State.setArbiter_outer]
  exact State.foldl_outer _ (fun t c => t.stopChannel_outer c) _ _
@[simp] theorem State.resetChannel_outer (c : ChannelId) : (s.resetChannel c).outer = s.outer := by
  unfold State.resetChannel
  dsimp only
  split <;> simp
@[simp] theorem State.resetChannels_outer : s.resetChannels.outer = s.outer := by
  simp only [State.resetChannels, State.modArbiter_eq, State.setArbiter_outer]
  exact State.foldl_outer _ (fun t c => t.resetChannel_outer c) _ _

theorem State.quench_cabinet (e : FaultEntry) : (s.quench e).cabinet = s.cabinet.quench := by
  have h : (s.fillLogs e true).stopWork.cabinet = s.cabinet :=
    (State.cabinet_of_outer (State.stopWork_outer _)).trans rfl
  unfold State.quench
  generalize (s.fillLogs e true).stopWork = u at h ⊢
  exact congrArg Cabinet.quench h
theorem State.quench_faults (e : FaultEntry) :
    (s.quench e).faults = { (s.fillLogs e true).faults with severity := .quench } := by
  have h : (s.fillLogs e true).stopWork.faults = (s.fillLogs e true).faults :=
    State.faults_of_outer (State.stopWork_outer _)
  unfold State.quench
  generalize (s.fillLogs e true).stopWork = u at h ⊢
  exact congrArg (fun f : FaultControl => { f with severity := .quench }) h
theorem State.quench_ports (e : FaultEntry) : (s.quench e).ports = s.ports := by
  have h : (s.fillLogs e true).stopWork.ports = s.ports :=
    (State.ports_of_outer (State.stopWork_outer _)).trans rfl
  unfold State.quench
  generalize (s.fillLogs e true).stopWork = u at h ⊢
  exact h

/-! ### What a CABINET_RESET and a LEAVE_PROOF write -/

theorem State.resetQuenched_ports : s.resetQuenched.ports = s.ports := by
  have h := State.ports_of_outer s.resetChannels_outer
  unfold State.resetQuenched
  generalize s.resetChannels = u at h ⊢
  exact h
theorem State.resetQuenched_cabinet : s.resetQuenched.cabinet = s.cabinet.settle := by
  have h := State.cabinet_of_outer s.resetChannels_outer
  unfold State.resetQuenched
  generalize s.resetChannels = u at h ⊢
  exact congrArg Cabinet.settle h
theorem State.resetQuenched_faults :
    s.resetQuenched.faults = { s.faults with severity := s.faults.severity.lower } := by
  have h := State.faults_of_outer s.resetChannels_outer
  unfold State.resetQuenched
  generalize s.resetChannels = u at h ⊢
  exact congrArg (fun f : FaultControl => { f with severity := f.severity.lower }) h

theorem State.resetLanes_outer : ((s.resetChannels.interruptLane .a).interruptLane .b).outer = s.outer := by simp
theorem State.resetWorking_ports : s.resetWorking.ports = s.ports := by
  have h := State.ports_of_outer s.resetLanes_outer
  unfold State.resetWorking
  generalize (s.resetChannels.interruptLane .a).interruptLane .b = u at h ⊢
  exact h
theorem State.resetWorking_cabinet : s.resetWorking.cabinet = s.cabinet.settle := by
  have h := State.cabinet_of_outer s.resetLanes_outer
  unfold State.resetWorking
  generalize (s.resetChannels.interruptLane .a).interruptLane .b = u at h ⊢
  exact congrArg Cabinet.settle h
theorem State.resetWorking_faults : s.resetWorking.faults = s.faults := by
  have h := State.faults_of_outer s.resetLanes_outer
  unfold State.resetWorking
  generalize (s.resetChannels.interruptLane .a).interruptLane .b = u at h ⊢
  exact h

theorem State.leaveProof_ports : s.leaveProof.ports = s.ports := by
  have h := State.ports_of_outer s.unparkAll_outer
  unfold State.leaveProof
  generalize s.unparkAll = u at h ⊢
  exact h
theorem State.leaveProof_cabinet : s.leaveProof.cabinet = s.cabinet.settle := by
  have h := State.cabinet_of_outer s.unparkAll_outer
  unfold State.leaveProof
  generalize s.unparkAll = u at h ⊢
  exact congrArg Cabinet.settle h
theorem State.leaveProof_faults : s.leaveProof.faults = s.faults := by
  have h := State.faults_of_outer s.unparkAll_outer
  unfold State.leaveProof
  generalize s.unparkAll = u at h ⊢
  exact h

/-- Enter PROOF and take what R7 and the arbiter then do. -/
theorem State.enterProof_outer : s.enterProof.outer = (s.setCabinet s.cabinet.enterProof).outer := by
  simp [State.enterProof]
theorem State.takeSettled_outer : s.takeSettled.outer = (s.setCabinet s.cabinet.goLive).outer := by
  simp [State.takeSettled]

/-! ### The cabinet law -/

variable {s}

/-- The law speaks of the severity and of Cabinet Control alone. -/
theorem CabinetLaw.congr {t : State} (hs : CabinetLaw s) (hseverity : t.faults.severity = s.faults.severity)
    (hcabinet : t.cabinet = s.cabinet) : CabinetLaw t := by
  unfold CabinetLaw State.mode at *
  rw [hseverity, hcabinet]
  exact hs

theorem CabinetLaw.of_outer {t : State} (hs : CabinetLaw s) (h : t.outer = s.outer) : CabinetLaw t :=
  hs.congr (congrArg _ (State.faults_of_outer h)) (State.cabinet_of_outer h)

/-- Time passes: no timer starts or stops. -/
theorem CabinetLaw.elapse (hs : CabinetLaw s) (n : Nat) : CabinetLaw (s.elapse n) := by
  simpa [CabinetLaw, State.elapse, State.mode, runDown] using hs

/-- The law in a mode other than UNCONFIGURED, with the severity it asks for and the setup values kept. -/
theorem CabinetLaw.enter {t : State} (hs : CabinetLaw s) (hmode : s.mode ≠ .unconfigured)
    (hsetup : t.cabinet.setup = s.cabinet.setup) (htime : t.cabinet.timeBase = s.cabinet.timeBase)
    (hnew : t.mode ≠ .unconfigured) (hseverity : t.faults.severity = .quench ↔ t.mode = .quenched)
    (htimer : t.cabinet.settlingTimer.isSome ↔ t.mode = .settling)
    (hload : t.cabinet.dummyLoad = true ↔ t.mode = .proof) : CabinetLaw t := by
  obtain ⟨-, hsetup', htime', -, -⟩ := hs
  refine ⟨hseverity, ?_, ?_, htimer, hload⟩
  · rw [hsetup]; exact hsetup'.trans (iff_of_true hmode hnew)
  · rw [htime]; exact htime'.trans (iff_of_true hmode hnew)

theorem CabinetLaw.setup_isSome (hs : CabinetLaw s) (hmode : s.mode ≠ .unconfigured) : s.cabinet.setup.isSome :=
  hs.2.1.mpr hmode

theorem CabinetLaw.severity_ne_quench (hs : CabinetLaw s) (hmode : s.mode ≠ .quenched) :
    s.faults.severity ≠ .quench := fun h => hmode (hs.1.mp h)

theorem CabinetLaw.quench (hs : CabinetLaw s) (hmode : s.mode ≠ .unconfigured) (e : FaultEntry) :
    CabinetLaw (s.quench e) := by
  have hcab := s.quench_cabinet e
  have hquenched : (s.quench e).mode = .quenched := by rw [State.mode, hcab]; rfl
  refine hs.enter hmode ?_ ?_ ?_ ?_ ?_ ?_
  · rw [hcab]; rfl
  · rw [hcab]; rfl
  · rw [hquenched]; decide
  · rw [hquenched, s.quench_faults e]; simp
  · rw [hquenched, hcab]; simp [Cabinet.quench]
  · rw [hquenched, hcab]; simp [Cabinet.quench]

theorem CabinetLaw.quenchCause (hs : CabinetLaw s) (e : FaultEntry) : CabinetLaw (s.quenchCause e) := by
  unfold State.quenchCause
  split
  · exact hs
  · rename_i h; exact hs.quench (by rw [h]; decide) e
  · rename_i h; exact hs.quench (by rw [h]; decide) e
  · rename_i h; exact hs.quench (by rw [h]; decide) e
  · exact hs.congr rfl rfl

theorem CabinetLaw.standing (hs : CabinetLaw s) (i : CabinetInput) : CabinetLaw (s.standing i) := by
  unfold State.standing
  split
  · exact hs.quenchCause _
  · exact hs

theorem CabinetLaw.standingAlarms (hs : CabinetLaw s) : CabinetLaw s.standingAlarms :=
  ((hs.standing .coolantFlow).standing .busCurrent).standing .groundMonitor

theorem State.containChannel_outer (cause : AbortCause) (c : ChannelId) : (s.containChannel cause c).outer = s.outer := by
  unfold State.containChannel
  (repeat' split) <;> simp

theorem Severity.contain_eq_quench (v : Severity) : v.contain = .quench ↔ v = .quench := by cases v <;> decide

theorem Severity.lower_ne_quench (v : Severity) : v.lower ≠ .quench := by cases v <;> decide

/-- A contained fault raises the severity to CONTAINED at most. -/
theorem CabinetLaw.containError (hs : CabinetLaw s) (e : FaultEntry) : CabinetLaw (s.containError e) := by
  obtain ⟨hseverity, hrest⟩ := hs
  exact ⟨(Severity.contain_eq_quench _).trans hseverity, hrest⟩

theorem CabinetLaw.channelFault (hs : CabinetLaw s) (cls : CauseClass) (cause : AbortCause) (r : Response)
    (c : ChannelId) : CabinetLaw (s.channelFault cls cause r c) := by
  unfold State.channelFault
  split
  · exact hs
  · cases r with
    | quench => exact hs.quenchCause _
    | contain => exact (hs.of_outer (State.containChannel_outer cause c)).containError _

theorem CabinetLaw.headCoolantFault (hs : CabinetLaw s) (h : HeadId) (c : ChannelId) :
    CabinetLaw (s.headCoolantFault h c) := by
  unfold State.headCoolantFault
  dsimp only
  split
  · exact (hs.of_outer (State.cutAttempt_outer _ _ _ _)).containError _
  · exact (hs.quenchCause _).of_outer (State.setHealth_outer _ _ _)

theorem CabinetLaw.coolantLow (hs : CabinetLaw s) (h : HeadId) : CabinetLaw (s.coolantLow h) := by
  unfold State.coolantLow
  split
  · exact hs
  · split
    · exact (hs.headCoolantFault _ _).of_outer (State.arbitrate_outer _)
    · exact hs.of_outer (by simp)

theorem CabinetLaw.checkMatrix (hs : CabinetLaw s) (c : ChannelId) (b : Bool) : CabinetLaw (s.checkMatrix c b) := by
  unfold State.checkMatrix
  split
  · exact hs
  · exact hs.channelFault _ _ _ _

theorem CabinetLaw.moveCompletes (hs : CabinetLaw s) (c : ChannelId) (confirmed load : Bool) :
    CabinetLaw (s.moveCompletes c confirmed load) := by
  unfold State.moveCompletes
  split
  · exact (hs.of_outer (s.setChan_outer _ _)).checkMatrix c _
  · split
    · exact (hs.of_outer (State.endAttempt_outer _ _ _ _)).checkMatrix c _
    · split
      · split
        · exact hs.of_outer (by simp)
        · exact hs.of_outer (by simp)
      · exact hs.channelFault _ _ _ _

/-- A state that differs from a lawful one in SETTLING's three fields, with a severity other than QUENCH. -/
theorem CabinetLaw.settle {t : State} (hs : CabinetLaw s) (hmode : s.mode ≠ .unconfigured)
    (hcabinet : t.cabinet = s.cabinet.settle) (hseverity : t.faults.severity ≠ .quench) : CabinetLaw t := by
  have hnew : t.mode = .settling := by rw [State.mode, hcabinet]; rfl
  refine hs.enter hmode ?_ ?_ ?_ ?_ ?_ ?_
  · rw [hcabinet]; rfl
  · rw [hcabinet]; rfl
  · rw [hnew]; decide
  · rw [hnew]; simp [hseverity]
  · rw [hnew, hcabinet]; simpa [Cabinet.settle] using hs.setup_isSome hmode
  · rw [hnew, hcabinet]; simp [Cabinet.settle]

theorem CabinetLaw.cabinetReset (hs : CabinetLaw s) (hmode : s.mode ≠ .unconfigured) : CabinetLaw s.cabinetReset := by
  refine CabinetLaw.standingAlarms ?_
  split
  · refine hs.settle hmode s.resetQuenched_cabinet ?_
    rw [s.resetQuenched_faults]
    exact Severity.lower_ne_quench _
  · rename_i hq
    refine hs.settle hmode s.resetWorking_cabinet ?_
    rw [s.resetWorking_faults]
    exact hs.severity_ne_quench hq

theorem CabinetLaw.setUp (hs : CabinetLaw s) (hmode : s.mode = .unconfigured) (x : Setup) : CabinetLaw (s.setUp x) := by
  have hseverity := hs.severity_ne_quench (by rw [hmode]; decide)
  have hload : s.cabinet.dummyLoad = false := by
    rw [Bool.eq_false_iff, Ne, hs.2.2.2.2, hmode]; decide
  rw [State.setUp_eq_standingAlarms]
  exact CabinetLaw.standingAlarms
    ⟨iff_of_false hseverity (by decide : Mode.settling ≠ .quenched),
      iff_of_true rfl (by decide : Mode.settling ≠ .unconfigured),
      iff_of_true rfl (by decide : Mode.settling ≠ .unconfigured), iff_of_true rfl rfl,
      iff_of_false (by show ¬ s.cabinet.dummyLoad = true; simp [hload]) (by decide : Mode.settling ≠ .proof)⟩

theorem CabinetLaw.enterProof (hs : CabinetLaw s) (hmode : s.mode = .live) : CabinetLaw s.enterProof := by
  have hseverity := hs.severity_ne_quench (by rw [hmode]; decide)
  have htimer : ¬ s.cabinet.settlingTimer.isSome := by rw [hs.2.2.2.1, hmode]; decide
  have h : CabinetLaw (s.setCabinet s.cabinet.enterProof) :=
    hs.enter (by rw [hmode]; decide) rfl rfl (by decide : Mode.proof ≠ .unconfigured)
      (iff_of_false hseverity (by decide : Mode.proof ≠ .quenched))
      (iff_of_false htimer (by decide : Mode.proof ≠ .settling)) (iff_of_true rfl rfl)
  exact h.of_outer s.enterProof_outer

theorem CabinetLaw.leaveProof (hs : CabinetLaw s) (hmode : s.mode = .proof) : CabinetLaw s.leaveProof := by
  have hseverity := hs.severity_ne_quench (by rw [hmode]; decide)
  refine hs.settle (by rw [hmode]; decide) s.leaveProof_cabinet ?_
  rw [s.leaveProof_faults]
  exact hseverity

theorem CabinetLaw.takeSettled (hs : CabinetLaw s) (htimer : s.cabinet.settlingTimer.isSome) :
    CabinetLaw s.takeSettled := by
  have hmode : s.mode = .settling := hs.2.2.2.1.mp htimer
  have hseverity := hs.severity_ne_quench (by rw [hmode]; decide)
  have hload : ¬ s.cabinet.dummyLoad = true := by rw [hs.2.2.2.2, hmode]; decide
  have h : CabinetLaw (s.setCabinet s.cabinet.goLive) :=
    hs.enter (by rw [hmode]; decide) rfl rfl (by decide : Mode.live ≠ .unconfigured)
      (iff_of_false hseverity (by decide : Mode.live ≠ .quenched))
      (iff_of_false (by simp [Cabinet.goLive] : ¬ s.cabinet.goLive.settlingTimer.isSome)
        (by decide : Mode.live ≠ .settling))
      (iff_of_false hload (by decide : Mode.live ≠ .proof))
  exact h.of_outer s.takeSettled_outer

theorem CabinetLaw.reset : CabinetLaw State.reset :=
  ⟨by decide, by decide, by decide, by decide, by decide⟩

/-- The law after power-on, with the queue and the counts that stay (log entry 20). -/
theorem CabinetLaw.powerOn (q : List Instr) (d g : Nat) :
    CabinetLaw { State.reset with pending := q, draws := d, grants := g } := CabinetLaw.reset.congr rfl rfl

/-- Every event keeps the cabinet law: Fault Control and Cabinet Control are written by faults, resets and the changes
of mode alone. -/
theorem CabinetLaw.event {t : State} (he : Event s t) (hs : CabinetLaw s) : CabinetLaw t := by
  cases he
  case none => exact hs
  case powerOn => exact .powerOn _ _ _
  case clearErrors hmode =>
    obtain ⟨-, hrest⟩ := hs
    exact ⟨iff_of_false (by decide : Severity.clear ≠ .quench) hmode, hrest⟩
  case response c r => exact hs.congr (by cases c <;> rfl) rfl
  case cabinetReset hmode => exact hs.cabinetReset hmode
  case setUp hmode x => exact hs.setUp hmode x
  case enterProof hmode => exact hs.enterProof hmode
  case leaveProof hmode => exact hs.leaveProof hmode
  case settled n htimer => exact (hs.elapse n).takeSettled (by simpa [State.elapse, runDown] using htimer)
  case inputReturn i => exact hs.congr (by cases i <;> rfl) rfl
  case inputAlarm i =>
    have h : CabinetLaw (s.setFaults (s.faults.setAlarm i true)) := hs.congr (by cases i <;> rfl) rfl
    exact h.quenchCause _
  case inverter c => exact (hs.channelFault _ _ _ _).of_outer (State.arbitrate_outer _)
  case matrix c => exact (hs.channelFault _ _ _ _).of_outer (State.arbitrate_outer _)
  case coolantLow h => exact (hs.of_outer (State.setHead_outer _ _ _)).coolantLow h
  case move c b d n => exact ((hs.elapse n).moveCompletes c b d).of_outer (State.arbitrate_outer _)
  case sensorExpiry h n => exact (hs.elapse n).of_outer (by simp)
  case segmentTime c n => exact (hs.elapse n).of_outer (by simp)
  case deadline l n => exact (hs.elapse n).of_outer (by simp)
  case cooled h n => exact (hs.elapse n).of_outer (by simp)
  case linkFaultRead | recipe | binding | family => exact hs.congr rfl rfl
  case reader l r => exact hs.of_outer (s.changeReader_outer l r)
  all_goals exact hs.of_outer (by simp)

theorem CabinetLaw.linkEvent {t : State} (he : LinkEvent s t) (hs : CabinetLaw s) : CabinetLaw t := by
  cases he <;> exact hs.congr rfl rfl

/-- Settles O57: every event keeps the law, the links do not touch it, and a tick only runs timers down. -/
theorem stepsKeepCabinetLaw : Obligations.StepsKeepCabinetLaw :=
  step_keeps (fun _ _ he hs => hs.event he) (fun _ _ he hs => hs.linkEvent he) (fun _ _ _ _ hs => hs.congr rfl rfl)
    (fun _ _ hs => hs.congr rfl rfl) fun _ hs => hs.elapse 1

/-! ### The link law -/

theorem LinkLaw.congr {t : State} (hs : LinkLaw s) (h : t.ports = s.ports) : LinkLaw t := by
  intro p
  rw [State.port_congr h]
  exact hs p

theorem LinkLaw.of_outer {t : State} (hs : LinkLaw s) (h : t.outer = s.outer) : LinkLaw t :=
  hs.congr (State.ports_of_outer h)

/-- One port written with values that agree. -/
theorem LinkLaw.setPort (hs : LinkLaw s) (p : Port) (x : PortState) (hrx : x.rx.isSome ↔ x.inService = true)
    (hanswer : x.inService = true → x.answer.isSome) : LinkLaw (s.setPort p x) := by
  intro q
  rw [State.port_setPort]
  split
  · exact ⟨hrx, hanswer⟩
  · exact hs q

theorem State.containError_ports (s : State) (e : FaultEntry) : (s.containError e).ports = s.ports := rfl

theorem State.quenchCause_ports (e : FaultEntry) : (s.quenchCause e).ports = s.ports := by
  unfold State.quenchCause
  split
  · rfl
  · exact s.quench_ports e
  · exact s.quench_ports e
  · exact s.quench_ports e
  · rfl

theorem State.standing_ports (t : State) (i : CabinetInput) : (t.standing i).ports = t.ports := by
  unfold State.standing
  split
  · exact State.quenchCause_ports _
  · rfl

theorem State.standingAlarms_ports (t : State) : t.standingAlarms.ports = t.ports :=
  (State.standing_ports _ _).trans ((State.standing_ports _ _).trans (State.standing_ports _ _))

theorem State.channelFault_ports (t : State) (cls : CauseClass) (cause : AbortCause) (r : Response) (c : ChannelId) :
    (t.channelFault cls cause r c).ports = t.ports := by
  unfold State.channelFault
  split
  · rfl
  · cases r with
    | quench => exact State.quenchCause_ports _
    | contain => exact (State.containError_ports _ _).trans (State.ports_of_outer (State.containChannel_outer cause c))

theorem State.checkMatrix_ports (t : State) (c : ChannelId) (b : Bool) : (t.checkMatrix c b).ports = t.ports := by
  unfold State.checkMatrix
  split
  · rfl
  · exact State.channelFault_ports _ _ _ _ _

theorem State.moveCompletes_ports (t : State) (c : ChannelId) (b d : Bool) :
    (t.moveCompletes c b d).ports = t.ports := by
  unfold State.moveCompletes
  split
  · exact State.checkMatrix_ports _ _ _
  · split
    · exact (State.checkMatrix_ports _ _ _).trans (State.ports_of_outer (by simp))
    · split
      · split <;> exact State.ports_of_outer (by simp)
      · exact State.channelFault_ports _ _ _ _ _

theorem State.coolantLow_ports (t : State) (h : HeadId) : (t.coolantLow h).ports = t.ports := by
  unfold State.coolantLow
  split
  · rfl
  · split
    · refine (State.ports_of_outer (State.arbitrate_outer _)).trans ?_
      unfold State.headCoolantFault
      dsimp only
      split
      · exact (State.containError_ports _ _).trans (State.ports_of_outer (State.cutAttempt_outer _ _ _ _))
      · exact (State.ports_of_outer (State.setHealth_outer _ _ _)).trans (State.quenchCause_ports _)
    · exact State.ports_of_outer (by simp)

theorem State.cabinetReset_ports (t : State) : t.cabinetReset.ports = t.ports := by
  refine (State.standingAlarms_ports _).trans ?_
  split
  · exact t.resetQuenched_ports
  · exact t.resetWorking_ports

theorem LinkLaw.powerOn (q : List Instr) (d g : Nat) :
    LinkLaw { State.reset with pending := q, draws := d, grants := g } := by
  intro p
  cases p <;> simp [State.port, PortTbl.get, State.reset, PortState.reset]

/-- An event writes no port, but for the cause that a READ_STATUS clears and for power-on. -/
theorem LinkLaw.event {t : State} (he : Event s t) (hs : LinkLaw s) : LinkLaw t := by
  cases he
  case none => exact hs
  case powerOn => exact .powerOn _ _ _
  case linkFaultRead p => exact hs.setPort p _ (hs p).1 (hs p).2
  case cabinetReset => exact hs.congr s.cabinetReset_ports
  case setUp x =>
    rw [State.setUp_eq_standingAlarms]
    exact hs.congr (State.standingAlarms_ports _)
  case enterProof =>
    exact (hs.congr rfl : LinkLaw (s.setCabinet s.cabinet.enterProof)).of_outer s.enterProof_outer
  case leaveProof => exact hs.congr s.leaveProof_ports
  case settled n _ =>
    exact (hs.congr rfl : LinkLaw ((s.elapse n).setCabinet (s.elapse n).cabinet.goLive)).of_outer
      (s.elapse n).takeSettled_outer
  case inputAlarm i => exact hs.congr (State.quenchCause_ports _)
  case inverter c =>
    exact hs.congr ((State.ports_of_outer (State.arbitrate_outer _)).trans (State.channelFault_ports _ _ _ _ _))
  case matrix c =>
    exact hs.congr ((State.ports_of_outer (State.arbitrate_outer _)).trans (State.channelFault_ports _ _ _ _ _))
  case coolantLow h => exact hs.congr (State.coolantLow_ports _ _)
  case move c b d n =>
    exact hs.congr ((State.ports_of_outer (State.arbitrate_outer _)).trans (State.moveCompletes_ports _ _ _ _))
  case sensorExpiry h n => exact (hs.congr rfl : LinkLaw (s.elapse n)).of_outer (by simp)
  case segmentTime c n => exact (hs.congr rfl : LinkLaw (s.elapse n)).of_outer (by simp)
  case deadline l n => exact (hs.congr rfl : LinkLaw (s.elapse n)).of_outer (by simp)
  case cooled h n => exact (hs.congr rfl : LinkLaw (s.elapse n)).of_outer (by simp)
  case recipe | binding | family | response | clearErrors | inputReturn => exact hs.congr rfl
  case reader l r => exact hs.of_outer (s.changeReader_outer l r)
  all_goals exact hs.of_outer (by simp)

/-- A drop puts a frame into a buffer that holds one, a link fault leaves the buffer, and an answer's end empties it. -/
theorem LinkLaw.linkEvent {t : State} (he : LinkEvent s t) (hs : LinkLaw s) : LinkLaw t := by
  cases he
  case none => exact hs
  case drop p f hbusy =>
    rw [State.dropFrame_eq]
    exact hs.setPort p _ (iff_of_true rfl hbusy) fun _ => (hs p).2 hbusy
  case note p c =>
    rw [State.noteLinkFault_eq]
    exact hs.setPort p _ (hs p).1 (hs p).2
  case sent p => exact hs.setPort p _ (by simp) (by simp)

theorem LinkLaw.answered (hs : LinkLaw s) (q : Request) (code : AnswerCode) (x : List Byte) :
    LinkLaw (s.answered q code x) := hs.setPort _ _ (iff_of_true rfl rfl) fun _ => rfl

/-- Settles O58: a request in service holds its frame and its answer, and no other event writes a port's service. -/
theorem stepsKeepLinkLaw : Obligations.StepsKeepLinkLaw :=
  step_keeps (fun _ _ he hs => hs.event he) (fun _ _ he hs => hs.linkEvent he) (fun _ q code x hs => hs.answered q code x)
    (fun _ _ hs => hs.congr rfl) fun _ hs => hs.congr rfl

end Sys2Proof.Machine
end

section
/-! PROOF. The power law and the results law (R61, R70, R128), event by event, from what the shared operations keep; and
the four laws after power-on. -/

namespace Sys2Proof.Machine

variable {s : State}

/-! ### The power law -/

theorem PowerLaw.setLane (hs : PowerLaw s) (l : Lane) (x : OrderManager) : PowerLaw (s.setOm l x) :=
  hs.of_plant (s.setOm_plant l x) (s.setOm_outer l x)

theorem PowerLaw.elapse (hs : PowerLaw s) (n : Nat) : PowerLaw (s.elapse n) := hs.of_power (s.elapse_power n)

theorem PowerLaw.liftStays (hs : PowerLaw s) (w : HeadId → Bool) : PowerLaw (s.liftStays w) := hs.of_power rfl

theorem PowerLaw.windDown (hs : PowerLaw s) (l : Lane) (k : SlotId) (out : JointOutcome) : PowerLaw (s.windDown l k out) :=
  hs.of_plant (s.windDown_plant l k out) (s.windDown_outer l k out)

theorem PowerLaw.storeOrder (hs : PowerLaw s) (l : Lane) (o : Order) : PowerLaw (s.storeOrder l o) :=
  hs.of_plant (by simp [State.storeOrder]) (by simp)

theorem PowerLaw.discardOrder (hs : PowerLaw s) (l : Lane) (k : SlotId) (o : Order) :
    PowerLaw (s.discardOrder l k o) := by
  unfold State.discardOrder
  split
  · exact hs
  · have h1 : PowerLaw (s.modOrder l k fun x => { x with discard := true }) := hs.of_plant (by simp) (by simp)
    exact ((h1.windDown l k .notRun).of_plant (State.completionCheck_plant _ l)
      (State.completionCheck_outer _ l)).arbitrate

theorem PowerLaw.withdraw (hs : PowerLaw s) (l : Lane) (k : SlotId) (o : Order) : PowerLaw (s.withdraw l k o) := by
  unfold State.withdraw
  exact PowerLaw.arbitrate (hs.of_plant (by simp) (by simp))

theorem PowerLaw.resume (hs : PowerLaw s) (d : Decision) (l : Lane) (k : SlotId) (i : Nat) (j : Joint) :
    PowerLaw (s.resume d l k i j) := by
  cases d with
  | retry => exact PowerLaw.arbitrate (hs.of_plant (by simp [State.popHalted]) (by simp [State.popHalted]))
  | skip => exact PowerLaw.arbitrate (hs.of_plant (by simp [State.popHalted]) (by simp [State.popHalted]))

theorem PowerLaw.writeHead (hs : PowerLaw s) (h : HeadId) (x : HeadSettings) : PowerLaw (s.writeHead h x) := by
  unfold State.writeHead
  refine PowerLaw.arbitrate ?_
  split
  · exact (hs.setHead h _).liftStays _
  · exact hs.setHead h _

/-- A channel that is restored has no attempt, before and after. -/
theorem PowerLaw.restore (hs : PowerLaw s) (c : ChannelId) : PowerLaw (s.modChan c ChannelRec.restore) := by
  by_cases hf : (s.chan c).state = .faulted
  · have hnone : (s.chan c).attempt = none := by
      by_contra hsome
      rcases hs.2.1 c (Option.isSome_iff_ne_none.mpr hsome) with h | h <;> rw [hf] at h <;> cases h
    refine hs.setChan c (s.chan c).restore rfl rfl (fun h => ?_) ?_
    · simp [ChannelRec.restore, hf, hnone] at h
    · simp [ChannelRec.restore, hf, ChannelRec.load]
  · exact hs.of_power (State.power_modChan s c _ (by simp [ChannelRec.restore, hf]) (by simp [ChannelRec.restore, hf]))

theorem PowerLaw.removeOldest (hs : PowerLaw s) (l : Lane) (n : Nat) : PowerLaw (s.removeOldest l n) := by
  unfold State.removeOldest
  dsimp only
  split <;> exact hs.of_power rfl

theorem PowerLaw.changeReader (hs : PowerLaw s) (l : Lane) (r : Reader) : PowerLaw (s.changeReader l r) :=
  hs.of_power (State.changeReader_keeps State.power (fun _ _ _ _ => rfl) (fun _ _ _ => rfl) s l r)

theorem PowerLaw.enterProof (hs : PowerLaw s) : PowerLaw s.enterProof :=
  ((((hs.setCabinet s.cabinet.enterProof (by decide : Mode.proof ≠ .unconfigured)).unparkAll).tryActivation
    .a).tryActivation .b).arbitrate

theorem PowerLaw.leaveProof (hs : PowerLaw s) : PowerLaw s.leaveProof := by
  have h1 := hs.unparkAll
  unfold State.leaveProof
  generalize s.unparkAll = u at h1 ⊢
  exact (h1.setCabinet u.cabinet.settle (by decide : Mode.settling ≠ .unconfigured)).of_power rfl

theorem PowerLaw.takeSettled (hs : PowerLaw s) : PowerLaw s.takeSettled := by
  have h1 := hs.setCabinet s.cabinet.goLive (by decide : Mode.live ≠ .unconfigured)
  have h2 := h1.of_plant (t := (((s.setCabinet s.cabinet.goLive).post .laneA .cabinetLive .none).post .laneB .cabinetLive
    .none).post .supervisor .cabinetLive .none) (by simp) (by simp)
  exact ((h2.tryActivation .a).tryActivation .b).arbitrate

theorem PowerLaw.takeDeadline (hs : PowerLaw s) (l : Lane) : PowerLaw (s.takeDeadline l) := by
  unfold State.takeDeadline
  split
  · exact hs.setLane l _
  · rename_i k o _
    have h1 : PowerLaw (s.modOrder l k fun x => { x with late := true }) := hs.of_plant (by simp) (by simp)
    exact ((h1.windDown l k .skippedLate).of_plant (by simp) (by simp)).arbitrate

/-- Every event keeps the power law: attempts and committed power change together. -/
theorem PowerLaw.event {t : State} (he : Event s t) (hs : PowerLaw s) : PowerLaw t := by
  cases he
  case none => exact hs
  case powerOn => exact .reset _
  case post l o => exact hs.storeOrder l o
  case release l => exact ((hs.setLane l _).tryActivation l).arbitrate
  case discard l k o => exact hs.discardOrder l k o
  case withdraw l k o => exact hs.withdraw l k o
  case abort l k o => exact hs.abortOrder l k o
  case laneReset l => exact hs.laneReset l
  case resume d l k i j => exact hs.resume d l k i j
  case cueTaken l k i => exact PowerLaw.arbitrate (hs.of_plant (by simp) (by simp))
  case writeHead h x => exact hs.writeHead h x
  case mask w => exact PowerLaw.arbitrate (hs.of_power rfl)
  case unmask w => exact PowerLaw.arbitrate (hs.of_power rfl)
  case clearHealth h n => exact hs.clearHealth h n
  case budget n => exact PowerLaw.arbitrate (hs.of_power rfl)
  case restore c => exact (hs.restore c).arbitrate
  case acknowledge l n => exact ((hs.removeOldest l n).tryActivation l).arbitrate
  case reader l r => exact hs.changeReader l r
  case cabinetReset => exact .cabinetReset s
  case setUp hmode x => exact hs.setUp hmode x
  case enterProof => exact hs.enterProof
  case leaveProof => exact hs.leaveProof
  case reading h v => exact hs.storeReading h v
  case sensorExpiry h n => exact (hs.elapse n).takeSensorExpiry h
  case coolantLow h => exact (hs.setHead h _).coolantLow h
  case inputAlarm i =>
    exact PowerLaw.inputCause (hs.of_power rfl : PowerLaw (s.setFaults (s.faults.setAlarm i true))) i
  case inverter c => exact (hs.channelFault _ _ _ _).arbitrate
  case matrix c => exact (hs.matrixFault c).arbitrate
  case energy c => exact (hs.segmentEnd c _).arbitrate
  case segmentTime c n => exact ((hs.elapse n).segmentEnd c _).arbitrate
  case move c b d n => exact ((hs.elapse n).moveCompletes c b d).arbitrate
  case activation l => exact (hs.tryActivation l).arbitrate
  case naming => exact hs.nameCandidate.arbitrate
  case grant p hp => exact (hs.grant p hp).arbitrate
  case deadline l n => exact (hs.elapse n).takeDeadline l
  case cooled h n => exact (hs.elapse n).takeCooled h
  case settled n _ => exact (hs.elapse n).takeSettled
  all_goals exact hs.of_power rfl

theorem PowerLaw.linkEvent {t : State} (he : LinkEvent s t) (hs : PowerLaw s) : PowerLaw t := by
  cases he <;> exact hs.of_power rfl

/-- Settles O59: every event keeps the law, and neither the links nor a tick touch an attempt. -/
theorem stepsKeepPowerLaw : Obligations.StepsKeepPowerLaw :=
  step_keeps (fun _ _ he hs => hs.event he) (fun _ _ he hs => hs.linkEvent he) (fun _ _ _ _ hs => hs.of_power rfl)
    (fun _ _ hs => hs.of_power rfl) fun _ hs => hs.elapse 1

/-! ### The results law -/

theorem ResultsLaw.startingMarks (q : List Instr) (d g : Nat) :
    ResultsLaw { State.reset with pending := q, draws := d, grants := g } := by
  intro p l
  cases p <;> cases l <;> rfl

theorem ResultsLaw.modUnit (hs : ResultsLaw s) (p : Port) (f : EventUnit → EventUnit)
    (h : (f (s.unit p)).results = (s.unit p).results) : ResultsLaw (s.modUnit p f) :=
  hs.of_res (s.setUnit_res p _ h)

theorem EventUnit.polled_results (u : EventUnit) (k : EventKind) : (u.polled k).results = u.results := by
  cases k with
  | posted k => cases k <;> rfl
  | orderHalted => rfl
  | resultsPending => rfl

theorem ResultsLaw.storeOrder (hs : ResultsLaw s) (l : Lane) (o : Order) : ResultsLaw (s.storeOrder l o) :=
  hs.of_res (by simp [State.storeOrder])

theorem ResultsLaw.discardOrder (hs : ResultsLaw s) (l : Lane) (k : SlotId) (o : Order) :
    ResultsLaw (s.discardOrder l k o) := by
  unfold State.discardOrder
  split
  · exact hs
  · exact ((hs.of_res (by simp)).completionCheck l).arbitrate

theorem ResultsLaw.withdraw (hs : ResultsLaw s) (l : Lane) (k : SlotId) (o : Order) : ResultsLaw (s.withdraw l k o) := by
  have h1 := hs.appendRecord l (.completion (s.withdrawnRecord l k o))
  exact ((h1.of_res (by simp)).tryActivation l).arbitrate

theorem ResultsLaw.abortChannel (hs : ResultsLaw s) (l : Lane) (k : SlotId) (c : ChannelId) :
    ResultsLaw (State.abortChannel l k s c) := by
  unfold State.abortChannel
  split
  · split
    · exact hs
    · split
      · exact ((hs.of_res (s.recordSegment_res c .cut)).closeAttempt _ _ _).of_res (State.modJoint_res _ _ _ _ _)
      · exact hs.of_res (by simp)
  · exact hs

theorem ResultsLaw.abortOrder (hs : ResultsLaw s) (l : Lane) (k : SlotId) (o : Order) :
    ResultsLaw (s.abortOrder l k o) := by
  unfold State.abortOrder
  split
  · exact hs
  · have h1 : ResultsLaw ((s.modOrder l k fun x => { x with abort := true }).windDown l k .notRun) :=
      hs.of_res (by simp)
    exact ((ResultsLaw.foldl (fun t c ht => ht.abortChannel l k c) allChannels _ h1).completionCheck l).arbitrate

/-- The lane's ring is emptied before its unit is cleared, so the unit has no mark left to lose. -/
theorem ResultsLaw.laneReset (hs : ResultsLaw s) (l : Lane) : ResultsLaw (s.laneReset l) := by
  have hrefs : (s.dropLaneRefs l).res = s.res :=
    State.foldl_res _ (fun t k => by cases s.order l k <;> simp) _ _
  have h1 : ResultsLaw ((s.dropLaneRefs l).modOm l OrderManager.laneReset) := hs.of_res (by simp [hrefs])
  have h2 := ResultsLaw.foldl (f := State.removeAttempt l) (fun t c ht => by
    unfold State.removeAttempt
    (repeat' split) <;> exact ht.of_res (by simp)) allChannels _ h1
  unfold State.laneReset
  dsimp only
  generalize allChannels.foldl (State.removeAttempt l) _ = u at h2 ⊢
  have h3 := h2.emptyRing l
  have hring : ((u.emptyRing l).ring l).records = [] := by
    simp [State.emptyRing, State.ring_reportResults]
  generalize u.emptyRing l = v at h3 hring ⊢
  have hdrop : ∀ (w : State) (x : HeadId → Bool), (w.dropCandidateIf x).ring l = w.ring l := fun w x => by
    unfold State.dropCandidateIf; split <;> rfl
  refine ResultsLaw.arbitrate (ResultsLaw.clearUnit ?_ l ?_)
  · exact h3.of_res (by simp [State.clearLaneHeads])
  · rw [hdrop]; exact hring

theorem ResultsLaw.resume (hs : ResultsLaw s) (d : Decision) (l : Lane) (k : SlotId) (i : Nat) (j : Joint) :
    ResultsLaw (s.resume d l k i j) := by
  cases d with
  | retry => exact ResultsLaw.arbitrate (hs.of_res (by simp [State.popHalted]))
  | skip => exact ((hs.of_res (by simp [State.popHalted])).completionCheck l).arbitrate

theorem ResultsLaw.writeHead (hs : ResultsLaw s) (h : HeadId) (x : HeadSettings) : ResultsLaw (s.writeHead h x) := by
  unfold State.writeHead
  refine ResultsLaw.arbitrate ?_
  split <;> exact hs.of_res (by simp)

theorem ResultsLaw.clearHealth (hs : ResultsLaw s) (h : HeadId) (n : Nat) : ResultsLaw (s.clearHealth h n) := by
  unfold State.clearHealth
  refine ResultsLaw.arbitrate ?_
  split
  · exact (hs.of_res (by simp)).setHealth h _
  · exact hs.of_res (by simp)

theorem State.clearQuench_res (s : State) : s.clearQuench.res = s.res :=
  Prod.ext rfl (funext fun p => by cases p <;> rfl)

theorem ResultsLaw.resetChannel (hs : ResultsLaw s) (c : ChannelId) : ResultsLaw (s.resetChannel c) := by
  have h1 := hs.interruptAttempt c
  unfold State.resetChannel
  dsimp only
  split
  · exact h1
  · exact h1
  all_goals exact h1.of_res (by simp)

theorem ResultsLaw.resetChannels (hs : ResultsLaw s) : ResultsLaw s.resetChannels :=
  (ResultsLaw.foldl (fun _ c ht => ht.resetChannel c) allChannels s hs).of_res (by simp [State.resetChannels])

theorem ResultsLaw.cabinetReset (hs : ResultsLaw s) : ResultsLaw s.cabinetReset := by
  have h1 := hs.resetChannels
  unfold State.cabinetReset
  refine ResultsLaw.standingAlarms ?_
  split
  · unfold State.resetQuenched
    generalize s.resetChannels = u at h1 ⊢
    exact h1.of_res (by simp [State.clearQuench_res])
  · unfold State.resetWorking
    generalize s.resetChannels = u at h1 ⊢
    exact ((h1.interruptLane .a).interruptLane .b).of_res (by simp)

theorem ResultsLaw.setUp (hs : ResultsLaw s) (x : Setup) : ResultsLaw (s.setUp x) := by
  rw [State.setUp_eq_standingAlarms]
  exact (hs.of_res rfl : ResultsLaw (s.installed x)).standingAlarms

theorem State.unparkAll_res (s : State) : s.unparkAll.res = s.res := by
  unfold State.unparkAll
  rw [State.liftStays_res, State.foldl_res _ (fun t c => by unfold State.unparkIdle; split <;> simp)]

theorem ResultsLaw.enterProof (hs : ResultsLaw s) : ResultsLaw s.enterProof := by
  have h1 : ResultsLaw (s.setCabinet s.cabinet.enterProof).unparkAll := hs.of_res (State.unparkAll_res _)
  exact ((h1.tryActivation .a).tryActivation .b).arbitrate

theorem ResultsLaw.takeSettled (hs : ResultsLaw s) : ResultsLaw s.takeSettled := by
  have h1 : ResultsLaw ((((s.setCabinet s.cabinet.goLive).post .laneA .cabinetLive .none).post .laneB .cabinetLive
    .none).post .supervisor .cabinetLive .none) := hs.of_res (by simp)
  exact ((h1.tryActivation .a).tryActivation .b).arbitrate

theorem ResultsLaw.takeReading (hs : ResultsLaw s) (c : ChannelId) (h : HeadId) (v : Nat) :
    ResultsLaw (s.takeReading c h v) := by
  have h1 : ResultsLaw (s.notePeak c v) := hs.of_res (by simp)
  unfold State.takeReading
  dsimp only
  split
  · exact h1.cutAttempt _ _ _
  · split
    · exact h1.segmentEnd _ _
    · exact h1

theorem ResultsLaw.storeReading (hs : ResultsLaw s) (h : HeadId) (v : Nat) : ResultsLaw (s.storeReading h v) := by
  have h1 : ResultsLaw (s.modHead h fun r => { r with temp := some v, sensorTimer := some Config.sensorTimeout }) :=
    hs.of_res (by simp)
  unfold State.storeReading
  dsimp only
  split
  · exact h1
  · split
    · exact (h1.takeReading _ h v).arbitrate
    · exact h1

theorem ResultsLaw.takeSensorExpiry (hs : ResultsLaw s) (h : HeadId) : ResultsLaw (s.takeSensorExpiry h) := by
  have h1 : ResultsLaw (s.modHead h fun r => { r with temp := none, sensorTimer := none }) := hs.of_res (by simp)
  unfold State.takeSensorExpiry
  dsimp only
  split
  · exact h1
  · split
    · exact (h1.cutAttempt _ _ _).arbitrate
    · exact h1

theorem ResultsLaw.coolantLow (hs : ResultsLaw s) (h : HeadId) : ResultsLaw (s.coolantLow h) := by
  unfold State.coolantLow
  split
  · exact hs
  · split
    · exact (hs.headCoolantFault _ _).arbitrate
    · exact (hs.setHealth _ _).arbitrate

theorem ResultsLaw.checkMatrix (hs : ResultsLaw s) (c : ChannelId) (b : Bool) : ResultsLaw (s.checkMatrix c b) := by
  unfold State.checkMatrix
  split
  · exact hs
  · exact hs.channelFault _ _ _ _

theorem ResultsLaw.moveCompletes (hs : ResultsLaw s) (c : ChannelId) (b d : Bool) :
    ResultsLaw (s.moveCompletes c b d) := by
  unfold State.moveCompletes
  split
  · exact (hs.of_res (s.setChan_res _ _)).checkMatrix c b
  · split
    · exact (hs.endAttempt _ _ _).checkMatrix c b
    · split
      · split
        · exact hs.endAttempt _ _ _
        · exact hs.of_res (by simp)
      · exact hs.channelFault _ _ _ _

theorem ResultsLaw.takeDeadline (hs : ResultsLaw s) (l : Lane) : ResultsLaw (s.takeDeadline l) := by
  unfold State.takeDeadline
  split
  · exact hs.of_res (by simp)
  · exact ((hs.of_res (by simp)).completionCheck l).arbitrate

theorem ResultsLaw.takeCooled (hs : ResultsLaw s) (h : HeadId) : ResultsLaw (s.takeCooled h) := by
  unfold State.takeCooled
  dsimp only
  split
  · exact hs.of_res (by simp)
  · refine ResultsLaw.arbitrate ?_
    split <;> exact hs.of_res (by simp)

/-- Every event keeps the results law: a mark is written where records join or leave a ring or its reader changes. -/
theorem ResultsLaw.event {t : State} (he : Event s t) (hs : ResultsLaw s) : ResultsLaw t := by
  cases he
  case none => exact hs
  case powerOn => exact .startingMarks _ _ _
  case poll p k => exact hs.modUnit p _ (EventUnit.polled_results _ k)
  case attention p b => exact hs.modUnit p _ rfl
  case post l o => exact hs.storeOrder l o
  case release l => exact ((hs.of_res (by simp)).tryActivation l).arbitrate
  case discard l k o => exact hs.discardOrder l k o
  case withdraw l k o => exact hs.withdraw l k o
  case abort l k o => exact hs.abortOrder l k o
  case laneReset l => exact hs.laneReset l
  case resume d l k i j => exact hs.resume d l k i j
  case writeHead h x => exact hs.writeHead h x
  case clearHealth h n => exact hs.clearHealth h n
  case acknowledge l n => exact ((hs.removeOldest l n).tryActivation l).arbitrate
  case reader l r => exact hs.changeReader l r
  case cabinetReset => exact hs.cabinetReset
  case setUp x => exact hs.setUp x
  case enterProof => exact hs.enterProof
  case leaveProof => exact hs.of_res (by simp [State.leaveProof, State.unparkAll_res])
  case reading h v => exact hs.storeReading h v
  case sensorExpiry h n => exact (hs.of_res (s.elapse_res n)).takeSensorExpiry h
  case coolantLow h => exact (hs.of_res (s.setHead_res _ _)).coolantLow h
  case inputAlarm i => exact (hs.of_res (s.setFaults_res _)).quenchCause _
  case inverter c => exact (hs.channelFault _ _ _ _).arbitrate
  case matrix c => exact (hs.channelFault _ _ _ _).arbitrate
  case energy c => exact (hs.segmentEnd c _).arbitrate
  case segmentTime c n => exact ((hs.of_res (s.elapse_res n)).segmentEnd c _).arbitrate
  case move c b d n => exact ((hs.of_res (s.elapse_res n)).moveCompletes c b d).arbitrate
  case activation l => exact (hs.tryActivation l).arbitrate
  case deadline l n => exact (hs.of_res (s.elapse_res n)).takeDeadline l
  case cooled h n => exact (hs.of_res (s.elapse_res n)).takeCooled h
  case settled n _ => exact (hs.of_res (s.elapse_res n)).takeSettled
  case recipe | binding | family => exact hs.of_res rfl
  case mask | unmask => exact hs.of_res (by simp [State.setMasks])
  all_goals exact hs.of_res (by simp)

theorem ResultsLaw.linkEvent {t : State} (he : LinkEvent s t) (hs : ResultsLaw s) : ResultsLaw t := by
  cases he <;> exact hs.of_res rfl

/-- Settles O60: every event keeps the law, and neither the links nor a tick touch a ring or a mark. -/
theorem stepsKeepResultsLaw : Obligations.StepsKeepResultsLaw :=
  step_keeps (fun _ _ he hs => hs.event he) (fun _ _ he hs => hs.linkEvent he) (fun _ _ _ _ hs => hs.of_res rfl)
    (fun _ _ hs => hs.of_res rfl) fun _ hs => hs.of_res rfl

/-! ### After power-on -/

/-- Settles O56: each law after power-on, where the queue is empty and the counts are 0. -/
theorem lawsHoldAtReset : Obligations.LawsHoldAtReset :=
  ⟨.reset, .powerOn [] 0 0, .reset [], .startingMarks [] 0 0⟩

end Sys2Proof.Machine
end

section
/-! PROOF. The step, power-on, and the service of a request (chapters 8 and 10): what a tick and power-on leave, what a
frame does to a port in service, and that a refusal is its request's only change. -/

namespace Sys2Proof.Machine

/-! ### The step (log entries 1 and 3) -/

/-- Settles O1: the queue's front is what a step looks at. -/
theorem stepRunsFrontCommand : Obligations.StepRunsFrontCommand := fun _ _ _ => rfl

theorem State.om_elapse (s : State) (n : Nat) (l : Lane) :
    (s.elapse n).om l = { s.om l with deadline := runDown n (s.om l).deadline } := by cases l <;> rfl

theorem State.head_elapse (s : State) (n : Nat) (h : HeadId) :
    (s.elapse n).head h = { s.head h with sensorTimer := runDown n (s.head h).sensorTimer } := get_tabulate _ h

theorem State.chan_elapse (s : State) (n : Nat) (c : ChannelId) :
    (s.elapse n).chan c = { s.chan c with
      moveTimer := runDown n (s.chan c).moveTimer
      heat := (s.chan c).heat.map fun (w : Heating) => { w with segTimer := w.segTimer - n } } := get_tabulate _ c

theorem step_of_empty {s : State} (h : s.pending = []) : step s = .next (s.elapse 1) := by
  unfold step
  rw [h]

/-- Settles O2: the tick is the passing of 1 ms, block by block. -/
theorem emptyQueueTicksOneMs : Obligations.EmptyQueueTicksOneMs := fun s h =>
  ⟨s.elapse 1, step_of_empty h, rfl, s.om_elapse 1, s.head_elapse 1, s.chan_elapse 1, h, rfl, rfl, rfl, rfl, rfl, rfl,
    rfl, rfl, rfl, rfl, rfl⟩

/-! ### Power-on -/

theorem vector_get_replicate {α : Type} {n : Nat} (x : α) (i : Fin n) : (Vector.replicate n x).get i = x := by
  rw [Vector.get_eq_getElem, Vector.getElem_replicate]

/-- Settles O3: each block holds its power-on value, in every place of its table. -/
theorem powerOnState : Obligations.PowerOnState := by
  intro s
  have hchan : ∀ c, State.reset.chan c = ChannelRec.reset := fun c => vector_get_replicate _ c
  have hhead : ∀ h, State.reset.head h = HeadRec.reset := fun h => vector_get_replicate _ h
  have hslot : ∀ k, OrderManager.reset.slots.get k = none := fun k => vector_get_replicate _ k
  refine ⟨_, rfl, rfl, rfl, rfl, rfl, rfl, fun c => ?_, fun h => ?_, fun r => vector_get_replicate _ r,
    fun n => vector_get_replicate _ n, rfl, rfl, fun l => ?_, fun l => ?_, rfl, fun p => ?_, fun p => ?_⟩
  · show (State.reset.chan c).state = _ ∧ (State.reset.chan c).parked = _ ∧ (State.reset.chan c).attempt = _ ∧
      (State.reset.chan c).faultHeld = _ ∧ (State.reset.chan c).heat = _
    rw [hchan]
    exact ⟨rfl, rfl, rfl, rfl, rfl⟩
  · show (State.reset.head h).lane = _ ∧ (State.reset.head h).cls = _ ∧ (State.reset.head h).masked = _ ∧
      (State.reset.head h).stay = _ ∧ (State.reset.head h).anticipation = _ ∧ (State.reset.head h).health.any = _ ∧
      (State.reset.head h).temp = _ ∧ (State.reset.head h).sensorTimer = _ ∧ (State.reset.head h).coolant = _ ∧
      (State.reset.head h).cueLatch = _ ∧ (State.reset.head h).coolUntil = _ ∧ (State.reset.head h).connected = _
    rw [hhead]
    exact ⟨rfl, rfl, rfl, rfl, rfl, rfl, rfl, rfl, rfl, rfl, rfl, rfl⟩
  · cases l <;> exact ⟨hslot, rfl, rfl, rfl, rfl, rfl, rfl⟩
  · cases l <;> rfl
  · cases p <;> exact ⟨rfl, rfl, rfl⟩
  · cases p <;> exact ⟨rfl, rfl, rfl⟩

/-! ### Frames while a request is in service (R175) -/

/-- Settles O5: a request, a bad frame and a whole frame are dropped alike while a port is in service; with nothing in
service a frame that passes the four checks of R174 is no discard. -/
theorem serviceDropsFramesUntilAnswerIsSent : Obligations.ServiceDropsFramesUntilAnswerIsSent := by
  refine ⟨fun c p f s hframe hbusy => ?_, fun p s => ⟨fun hbusy => ?_, fun hfree => ⟨?_, fun f => ?_, ?_⟩⟩⟩
  · rw [← State.dropFrame_eq]
    rcases hframe with ⟨q, hq, rfl, rfl⟩ | ⟨e, rfl⟩ | rfl
    · obtain ⟨lengthOk, permitted, body, hexec, -⟩ := exec_request c q hq
      rw [hexec, serve_overrun _ _ _ _ _ hbusy]
    · simp [exec, execFrameDiscard, hbusy]
    · simp [exec, execFrameDroppedOverrun, hbusy]
  · simp [exec, execAnswerSent, hbusy]
  · simp [exec, execAnswerSent, hfree]
  · simp [exec, execFrameDroppedOverrun, hfree]
  · intro len body check hlow hhigh hbody hcheck
    dsimp only
    intro hsum
    have hlen : ((startMark :: ((BitVec.ofNat 8 len :: body) ++ check)).getD 1 0).toNat = len :=
      toNat_ofNat_byte (by omega)
    have hgood : badLength (startMark :: ((BitVec.ofNat 8 len :: body) ++ check)) = false :=
      badLength_eq_false (by omega) (by omega) (by simp only [List.length_cons, List.length_append]; omega)
    have hsame : badCheck (startMark :: ((BitVec.ofNat 8 len :: body) ++ check)) = false := by
      rw [Bool.eq_false_iff, Ne, badCheck_iff (by simp only [List.length_cons]; omega), not_not]
      exact hsum
    have hjudge : judgeFrame (startMark :: ((BitVec.ofNat 8 len :: body) ++ check)) false = none := by
      rw [judgeFrame, startMark_passed (.inr ⟨_, rfl⟩), hgood, hsame]
      rfl
    have hexec : exec (.frameDiscard p (startMark :: ((BitVec.ofNat 8 len :: body) ++ check)) false) s =
      execFrameDiscard p (startMark :: ((BitVec.ofNat 8 len :: body) ++ check)) false s := rfl
    refine hexec.trans ?_
    rw [execFrameDiscard, hfree, hjudge]
    rfl

/-! ### Answers (R176, R177) -/

/-- Settles O8: a taken request is judged, and what a judgement can answer is known. -/
theorem refusedRequestsChangeNothingElse : Obligations.RefusedRequestsChangeNothingElse := by
  intro c q s hq htakes
  obtain ⟨lengthOk, permitted, body, hexec, -⟩ := exec_request c q hq
  obtain ⟨code, x, u, hans, hrefused⟩ := judged_cases q lengthOk permitted body s
  exact ⟨code, x, u, by rw [hexec, serve_taken _ _ _ _ _ htakes, hans], hrefused⟩

/-! ### READ_STATUS (R180, R182) -/

theorem length_be1 (n : Nat) : (be1 n).length = 1 := rfl
theorem length_be2 (n : Nat) : (be2 n).length = 2 := rfl
theorem length_be3 (n : Nat) : (be3 n).length = 3 := rfl
theorem length_be4 (n : Nat) : (be4 n).length = 4 := rfl
theorem length_be6 (n : Nat) : (be6 n).length = 6 := rfl
theorem length_orAbsent {α : Type} (f : α → Nat) (v : Option α) : (orAbsent f v).length = 1 := rfl

/-- A list whose elements each give `n` bytes. -/
theorem length_flatMap_of_forall {α β : Type} {f : α → List β} {n : Nat} (h : ∀ a, (f a).length = n) (as : List α) :
    (as.flatMap f).length = as.length * n := by
  simp [List.length_flatMap, h]

theorem length_statusLink (p : PortState) : (statusLink p).length = 2 := rfl

theorem length_statusCabinet (c : Cabinet) : (statusCabinet c).length = 13 := rfl

theorem length_statusArbiter (a : Arbiter) : (statusArbiter a).length = 7 := rfl

theorem length_statusChannel (s : State) (c : ChannelId) : (statusChannel s c).length = 15 := by
  have hattempt : ∀ a : Option Attempt, (attemptBytes a).length = 5 := fun a => by cases a <;> rfl
  have hheat : ∀ w : Option Heating, (heatBytes w).length = 6 := fun w => by cases w <;> rfl
  simp [statusChannel, length_be1, length_orAbsent, hattempt, hheat]

theorem length_statusLane (s : State) (l : Lane) : (statusLane s l).length = 50 := by
  have hslot : ∀ k, (slotBytes (s.order l k)).length = 10 := fun k => by cases s.order l k <;> rfl
  simp [statusLane, length_flatMap_of_forall hslot, allSlots, length_be1, length_orAbsent, pairOrAbsent, length_be2]

theorem length_statusRing (r : Ring) : (statusRing r).length = 9 := rfl

theorem length_pendingCodes_le (s : State) (p : Port) : (s.pendingCodes p).length ≤ 9 := by
  have hkinds : (kindsOf p).length ≤ 9 := by cases p <;> decide
  rw [State.pendingCodes, List.length_map]
  exact (List.length_filter_le _ _).trans hkinds

theorem length_statusUnit (s : State) (p : Port) : (statusUnit s p).length = 12 := by
  have hcodes := length_pendingCodes_le s p
  simp only [statusUnit, List.length_append, length_be1, length_flatMap_of_forall length_be1, List.length_replicate]
  omega

theorem length_statusAnswer (s : State) (p : Port) : (statusAnswer s p).length = 244 := by
  simp only [statusAnswer, List.length_append, length_statusLink, length_statusCabinet, length_statusArbiter,
    length_flatMap_of_forall (length_statusChannel s), length_statusLane, length_statusRing, length_be1,
    length_statusUnit, allChannels, List.length_finRange]

/-- Settles O9: the parts of the answer have fixed lengths, whatever the state; the answer is gathered before the flag
is cleared. -/
theorem readStatusAnswersAndClearsLinkFault : Obligations.ReadStatusAnswersAndClearsLinkFault := fun p _ s htakes =>
  ⟨length_statusAnswer s p, serveAny_accepted (body := readStatusBody p) htakes rfl⟩

/-! ### Operands of one byte (R181) -/

theorem byteAt_be1 {n : Nat} (h : n < 256) : byteAt (be1 n) 0 = n := toNat_ofNat_byte h

/-- A number of a table of at most 256 places is read back from its byte. -/
theorem byteAt_be1_val {n : Nat} (i : Fin n) (h : n ≤ 256) : byteAt (be1 i.val) 0 = i.val :=
  byteAt_be1 (lt_of_lt_of_le i.isLt h)

/-! ### The reads (R35, R41, R58, R124, R145) -/

theorem readRecipeBody_be1 (r : RecipeId) (s : State) :
    readRecipeBody (be1 r.val) s = .ok (s, recipeAnswer r (s.recipes.get r)) := by
  simp only [readRecipeBody, Fin.ofNat_val_eq_self, byteAt_be1_val r (by decide), r.isLt, decide_true,
    need_true]

theorem readBindingBody_be1 (n : BindingId) (s : State) :
    readBindingBody (be1 n.val) s = .ok (s, bindingAnswer s n) := by
  simp only [readBindingBody, Fin.ofNat_val_eq_self, byteAt_be1_val n (by decide), n.isLt, decide_true,
    need_true]

theorem readHeadBody_be1 (h : HeadId) (s : State) : readHeadBody (be1 h.val) s = .ok (s, headAnswer s h) := by
  simp only [readHeadBody, Fin.ofNat_val_eq_self, byteAt_be1_val h (by decide), h.isLt, decide_true,
    need_true]

theorem wordsOf_cons (r : Record) (rs : List Record) : wordsOf (r :: rs) = r.size + wordsOf rs := List.sum_cons

/-- The records that fit are the oldest ones. -/
theorem fitting_isPrefix (rs : List Record) (room : Nat) : fitting rs room <+: rs := by
  induction rs generalizing room with
  | nil => exact List.nil_prefix
  | cons r rs ih =>
    unfold fitting
    split
    · exact List.cons_prefix_cons.mpr ⟨rfl, ih _⟩
    · exact List.nil_prefix

theorem wordsOf_fitting_le (rs : List Record) (room : Nat) : wordsOf (fitting rs room) ≤ room := by
  induction rs generalizing room with
  | nil => exact Nat.zero_le _
  | cons r rs ih =>
    unfold fitting
    split
    · rw [wordsOf_cons]
      have := ih (room - r.size)
      omega
    · exact Nat.zero_le _

/-- No longer run of oldest records fits. -/
theorem length_le_fitting {rs xs : List Record} {room : Nat} (hx : xs <+: rs) (hroom : wordsOf xs ≤ room) :
    xs.length ≤ (fitting rs room).length := by
  induction rs generalizing xs room with
  | nil => rw [List.prefix_nil.mp hx]; exact Nat.zero_le _
  | cons r rs ih =>
    cases xs with
    | nil => exact Nat.zero_le _
    | cons x xs =>
      obtain ⟨rfl, htail⟩ := List.cons_prefix_cons.mp hx
      rw [wordsOf_cons] at hroom
      unfold fitting
      rw [if_pos (by omega)]
      exact Nat.succ_le_succ (ih htail (by omega))

/-- What a read of at most n records returns: the longest run of oldest records within the limits of R124. -/
theorem Ring.read_spec (r : Ring) (n : Nat) :
    r.read n <+: r.records ∧ (r.read n).length ≤ n ∧ wordsOf (r.read n) ≤ 120 ∧
      ∀ longer : List Record, longer <+: r.records → longer.length ≤ n → wordsOf longer ≤ 120 →
        longer.length ≤ (r.read n).length := by
  have hfit := fitting_isPrefix (r.records.take n) Config.readLimit
  refine ⟨hfit.trans (List.take_prefix n _), hfit.length_le.trans (List.length_take_le n _),
    wordsOf_fitting_le _ Config.readLimit, fun longer hlonger hlen hwords => length_le_fitting ?_ hwords⟩
  have hsame := List.prefix_iff_eq_take.mp hlonger
  rw [hsame]
  exact List.take_prefix_take_left hlen

theorem readResultsBody_codes {n : Nat} (hlow : 1 ≤ n) (hhigh : n ≤ 8) (p : Port) (l : Lane) (s : State) :
    readResultsBody p [BitVec.ofNat 8 (laneNum l), BitVec.ofNat 8 n] s =
      need (s.isReader p l) .notReader (.ok (s, resultsAnswer l (s.ring l) ((s.ring l).read n))) := by
  have hl : byteAt [BitVec.ofNat 8 (laneNum l), BitVec.ofNat 8 n] 0 = laneNum l := by cases l <;> rfl
  have hn : byteAt [BitVec.ofNat 8 (laneNum l), BitVec.ofNat 8 n] 1 = n := toNat_ofNat_byte (by omega)
  simp only [readResultsBody, hl, hn, laneOfByte_laneNum, decide_eq_true hlow, decide_eq_true hhigh, Bool.and_self,
    need_true]

theorem State.isReader_iff (s : State) (p : Port) (l : Lane) :
    s.isReader p l = true ↔ p = readerPort l (s.ring l).reader := beq_iff_eq

/-- Settles O10: each read's operands are read back from its payload, and its body answers the state it found. -/
theorem readsChangeNothing : Obligations.ReadsChangeNothing := by
  refine fun p tag s n => ⟨fun r htakes => ?_, fun b htakes => ?_, fun h htakes => ?_, fun htakes => ?_,
    fun l hlow hhigh htakes => ⟨fun hreader => ⟨(s.ring l).read n, ?_⟩, fun hreader => ?_⟩⟩
  · exact serveAny_accepted htakes (readRecipeBody_be1 r s)
  · exact serveSupervisor_accepted rfl htakes (readBindingBody_be1 b s)
  · exact serveAny_accepted htakes (readHeadBody_be1 h s)
  · exact serveSupervisor_accepted (body := readErrorLogBody) rfl htakes rfl
  · obtain ⟨hprefix, hlen, hwords, hlongest⟩ := (s.ring l).read_spec n
    refine ⟨hprefix, hlen, hwords, hlongest, serveAny_accepted htakes ?_⟩
    rw [readResultsBody_codes hlow hhigh, (s.isReader_iff p l).mpr hreader, need_true]
  · refine serveAny_refused htakes ?_
    rw [readResultsBody_codes hlow hhigh, Bool.eq_false_iff.mpr fun h => hreader ((s.isReader_iff p l).mp h), need_false]

/-! ### POLL_EVENT (R163, R166, R167) -/

/-- The kinds of a unit stand in falling order of their codes. -/
theorem kindsOf_pairwise (p : Port) : (kindsOf p).Pairwise fun k k' => eventCode p k' < eventCode p k := by
  cases p with
  | laneA => decide
  | laneB => decide
  | supervisor => decide

/-- The vector names the pending kind with the greatest code. -/
theorem State.vectorKind_of_highest {s : State} {p : Port} {k : EventKind} (hmem : k ∈ kindsOf p)
    (hpending : (s.unit p).isPending k = true)
    (hhighest : ∀ k' ∈ kindsOf p, (s.unit p).isPending k' = true → eventCode p k' ≤ eventCode p k) :
    s.vectorKind p = some k := by
  have hk : k ∈ s.pendingKinds p := List.mem_filter.mpr ⟨hmem, hpending⟩
  have hsorted : (s.pendingKinds p).Pairwise fun k k' => eventCode p k' < eventCode p k :=
    (kindsOf_pairwise p).filter _
  have hle : ∀ k' ∈ s.pendingKinds p, eventCode p k' ≤ eventCode p k := fun k' hk' =>
    hhighest k' (List.mem_filter.mp hk').1 (List.mem_filter.mp hk').2
  unfold State.vectorKind
  cases hkinds : s.pendingKinds p with
  | nil => rw [hkinds] at hk; cases hk
  | cons first rest =>
    rw [hkinds] at hk hsorted hle
    rcases List.mem_cons.mp hk with rfl | hrest
    · rfl
    · have := List.rel_of_pairwise_cons hsorted hrest
      have := hle first List.mem_cons_self
      omega

theorem State.vectorKind_eq_none {s : State} {p : Port} (h : ∀ k ∈ kindsOf p, (s.unit p).isPending k = false) :
    s.vectorKind p = none := by
  have hkinds : s.pendingKinds p = [] := List.filter_eq_nil_iff.mpr fun k hk => by simp [h k hk]
  rw [State.vectorKind, hkinds]
  rfl

theorem pollBody_none {s : State} {p : Port} (h : s.vectorKind p = none) :
    pollBody p s = .ok (s, pollAnswer 0 .none []) := by
  rw [pollBody, h]

theorem pollBody_some {s : State} {p : Port} {k : EventKind} (h : s.vectorKind p = some k) :
    pollBody p s = .ok (s.setUnit p ((s.unit p).polled k),
      pollAnswer (eventCode p k) (s.contextOf p k) ((s.setUnit p ((s.unit p).polled k)).pendingCodes p)) := by
  rw [pollBody, h]
  rfl

/-- Every posted kind but SLOT_FREE is poll-cleared. -/
theorem EventUnit.polled_posted (u : EventUnit) {k : PostedKind} (h : k ≠ .slotFree) :
    u.polled (.posted k) = u.put k none := by
  cases k <;> first
    | rfl
    | exact absurd rfl h

/-- Settles O11: the highest pending kind is the vector's, and what a poll does to the unit goes by the kind. -/
theorem pollReportsHighestKind : Obligations.PollReportsHighestKind := by
  refine fun p tag s htakes => ⟨fun hnone => ?_, fun k hmem hpending hhighest => ⟨(s.unit p).polled k, ?_, ?_, ?_, ?_⟩⟩
  · exact serveAny_accepted htakes (pollBody_none (State.vectorKind_eq_none hnone))
  · rintro x rfl hx
    exact (s.unit p).polled_posted hx
  · rintro rfl
    rfl
  · rintro (rfl | rfl) <;> rfl
  · exact serveAny_accepted htakes (pollBody_some (State.vectorKind_of_highest hmem hpending hhighest))

/-! ### SET_LANE_POLICY (R23) -/

theorem serveLane_accepted {q : Request} {l : Lane} {body : Lane → State → Answered} {s t : State} {x : List Byte}
    (hport : portLane q.port = some l) (htakes : s.takes q) (hbody : body l s = .ok (t, x)) :
    serveLane q true body s = .next (t.answered q .ok x) := by
  rw [serveLane, serve_taken _ _ _ _ _ htakes, hport]
  exact congrArg _ (judged_ok _ _ _ _ _ hbody)

theorem serveLane_refused {q : Request} {l : Lane} {body : Lane → State → Answered} {s : State} {code : AnswerCode}
    (hport : portLane q.port = some l) (htakes : s.takes q) (hbody : body l s = .error code) :
    serveLane q true body s = .next (s.answered q code []) := by
  rw [serveLane, serve_taken _ _ _ _ _ htakes, hport]
  exact congrArg _ (judged_error _ _ _ _ hbody)

theorem policyOf_num (x : Policy) : policyOf x.num = some x := by cases x <;> rfl

theorem setLanePolicyBody_codes {n : Nat} (hn : n ≤ 15) (policy : Policy) (l : Lane) {s : State}
    (hmode : s.mode ≠ .unconfigured) :
    setLanePolicyBody (be1 policy.num ++ be1 n) l s =
      need (s.active l).isNone .active (.ok (s.setOm l { s.om l with policy := policy, threshold := n }, [])) := by
  have hp : byteAt (be1 policy.num ++ be1 n) 0 = policy.num := by cases policy <;> rfl
  have ht : byteAt (be1 policy.num ++ be1 n) 1 = n := toNat_ofNat_byte (by omega)
  simp only [setLanePolicyBody, hp, ht, policyOf_num, decide_eq_true hn, need_true, needSetup_of_ne_unconfigured hmode,
    State.modOm_eq]

/-- Settles O23: the one check of a policy in range is that the lane has no active order. -/
theorem lanePolicyIsReplaced : Obligations.LanePolicyIsReplaced := by
  intro p l tag policy n s hport hn
  dsimp only
  refine fun htakes hmode => ⟨fun hnone => ?_, fun hsome => ?_⟩
  · refine serveLane_accepted hport htakes ?_
    rw [setLanePolicyBody_codes hn policy l hmode, hnone]
    rfl
  · refine serveLane_refused hport htakes ?_
    rw [setLanePolicyBody_codes hn policy l hmode, Option.isNone_eq_false_iff.mpr hsome]
    rfl

end Sys2Proof.Machine
end

section
/-! PROOF. Reading one block after another one was written, and the shared operations in closed form: which blocks each of
them writes, with no case left open. The proofs of the chapters read states through these lemmas. -/

namespace Sys2Proof.Machine

variable (s : State)

/-! ### A block is not touched by the writing of another one -/

/-- One draw of metered energy more (log entry 5). -/
def State.draw (s : State) : State := { s with draws := s.draws + 1 }

@[simp] theorem State.reads_setPort (p : Port) (x : PortState) :
    (∀ m : Lane, (s.setPort p x).om m = s.om m) ∧ (∀ i : HeadId, (s.setPort p x).head i = s.head i) ∧
    (∀ d : ChannelId, (s.setPort p x).chan d = s.chan d) ∧ (∀ m : Lane, (s.setPort p x).ring m = s.ring m) ∧
    (∀ q : Port, (s.setPort p x).unit q = s.unit q) ∧
    (∀ (m : Lane) (n : SlotId), (s.setPort p x).order m n = s.order m n) ∧
    (∀ m : Lane, (s.setPort p x).active m = s.active m) ∧ (∀ d : ChannelId, (s.setPort p x).stay d = s.stay d) ∧
    (∀ r : RecipeId, (s.setPort p x).recipe r = s.recipe r) ∧ (s.setPort p x).now = s.now ∧
    (s.setPort p x).mode = s.mode :=
  ⟨fun _ => rfl, fun _ => rfl, fun _ => rfl, fun _ => rfl, fun _ => rfl, fun _ _ => rfl, fun _ => rfl, fun _ => rfl,
    fun _ => rfl, rfl, rfl⟩
@[simp] theorem State.reads_setOm (l : Lane) (x : OrderManager) :
    (∀ q : Port, (s.setOm l x).port q = s.port q) ∧ (∀ i : HeadId, (s.setOm l x).head i = s.head i) ∧
    (∀ d : ChannelId, (s.setOm l x).chan d = s.chan d) ∧ (∀ m : Lane, (s.setOm l x).ring m = s.ring m) ∧
    (∀ q : Port, (s.setOm l x).unit q = s.unit q) ∧ (∀ d : ChannelId, (s.setOm l x).stay d = s.stay d) ∧
    (∀ r : RecipeId, (s.setOm l x).recipe r = s.recipe r) ∧ (s.setOm l x).now = s.now ∧ (s.setOm l x).mode = s.mode :=
  ⟨fun _ => rfl, fun _ => rfl, fun _ => rfl, fun _ => rfl, fun _ => rfl, fun _ => rfl, fun _ => rfl, rfl, rfl⟩
@[simp] theorem State.reads_setSlot (l : Lane) (k : SlotId) (o : Option Order) :
    (∀ q : Port, (s.setSlot l k o).port q = s.port q) ∧ (∀ i : HeadId, (s.setSlot l k o).head i = s.head i) ∧
    (∀ d : ChannelId, (s.setSlot l k o).chan d = s.chan d) ∧ (∀ m : Lane, (s.setSlot l k o).ring m = s.ring m) ∧
    (∀ q : Port, (s.setSlot l k o).unit q = s.unit q) ∧ (∀ d : ChannelId, (s.setSlot l k o).stay d = s.stay d) ∧
    (∀ r : RecipeId, (s.setSlot l k o).recipe r = s.recipe r) ∧ (s.setSlot l k o).now = s.now ∧
    (s.setSlot l k o).mode = s.mode :=
  ⟨fun _ => rfl, fun _ => rfl, fun _ => rfl, fun _ => rfl, fun _ => rfl, fun _ => rfl, fun _ => rfl, rfl, rfl⟩
@[simp] theorem State.reads_setHead (h : HeadId) (x : HeadRec) :
    (∀ q : Port, (s.setHead h x).port q = s.port q) ∧ (∀ m : Lane, (s.setHead h x).om m = s.om m) ∧
    (∀ d : ChannelId, (s.setHead h x).chan d = s.chan d) ∧ (∀ m : Lane, (s.setHead h x).ring m = s.ring m) ∧
    (∀ q : Port, (s.setHead h x).unit q = s.unit q) ∧
    (∀ (m : Lane) (n : SlotId), (s.setHead h x).order m n = s.order m n) ∧
    (∀ m : Lane, (s.setHead h x).active m = s.active m) ∧ (∀ d : ChannelId, (s.setHead h x).stay d = s.stay d) ∧
    (∀ r : RecipeId, (s.setHead h x).recipe r = s.recipe r) ∧ (s.setHead h x).now = s.now ∧
    (s.setHead h x).mode = s.mode :=
  ⟨fun _ => rfl, fun _ => rfl, fun _ => rfl, fun _ => rfl, fun _ => rfl, fun _ _ => rfl, fun _ => rfl, fun _ => rfl,
    fun _ => rfl, rfl, rfl⟩
@[simp] theorem State.reads_mapHeads (f : HeadId → HeadRec → HeadRec) :
    (∀ q : Port, (s.mapHeads f).port q = s.port q) ∧ (∀ m : Lane, (s.mapHeads f).om m = s.om m) ∧
    (∀ d : ChannelId, (s.mapHeads f).chan d = s.chan d) ∧ (∀ m : Lane, (s.mapHeads f).ring m = s.ring m) ∧
    (∀ q : Port, (s.mapHeads f).unit q = s.unit q) ∧
    (∀ (m : Lane) (n : SlotId), (s.mapHeads f).order m n = s.order m n) ∧
    (∀ m : Lane, (s.mapHeads f).active m = s.active m) ∧ (∀ d : ChannelId, (s.mapHeads f).stay d = s.stay d) ∧
    (∀ r : RecipeId, (s.mapHeads f).recipe r = s.recipe r) ∧ (s.mapHeads f).now = s.now ∧
    (s.mapHeads f).mode = s.mode :=
  ⟨fun _ => rfl, fun _ => rfl, fun _ => rfl, fun _ => rfl, fun _ => rfl, fun _ _ => rfl, fun _ => rfl, fun _ => rfl,
    fun _ => rfl, rfl, rfl⟩
@[simp] theorem State.reads_setChan (c : ChannelId) (x : ChannelRec) :
    (∀ q : Port, (s.setChan c x).port q = s.port q) ∧ (∀ m : Lane, (s.setChan c x).om m = s.om m) ∧
    (∀ i : HeadId, (s.setChan c x).head i = s.head i) ∧ (∀ m : Lane, (s.setChan c x).ring m = s.ring m) ∧
    (∀ q : Port, (s.setChan c x).unit q = s.unit q) ∧
    (∀ (m : Lane) (n : SlotId), (s.setChan c x).order m n = s.order m n) ∧
    (∀ m : Lane, (s.setChan c x).active m = s.active m) ∧ (∀ d : ChannelId, (s.setChan c x).stay d = s.stay d) ∧
    (∀ r : RecipeId, (s.setChan c x).recipe r = s.recipe r) ∧ (s.setChan c x).now = s.now ∧
    (s.setChan c x).mode = s.mode :=
  ⟨fun _ => rfl, fun _ => rfl, fun _ => rfl, fun _ => rfl, fun _ => rfl, fun _ _ => rfl, fun _ => rfl, fun _ => rfl,
    fun _ => rfl, rfl, rfl⟩
@[simp] theorem State.reads_setRing (l : Lane) (x : Ring) :
    (∀ q : Port, (s.setRing l x).port q = s.port q) ∧ (∀ m : Lane, (s.setRing l x).om m = s.om m) ∧
    (∀ i : HeadId, (s.setRing l x).head i = s.head i) ∧ (∀ d : ChannelId, (s.setRing l x).chan d = s.chan d) ∧
    (∀ q : Port, (s.setRing l x).unit q = s.unit q) ∧
    (∀ (m : Lane) (n : SlotId), (s.setRing l x).order m n = s.order m n) ∧
    (∀ m : Lane, (s.setRing l x).active m = s.active m) ∧ (∀ d : ChannelId, (s.setRing l x).stay d = s.stay d) ∧
    (∀ r : RecipeId, (s.setRing l x).recipe r = s.recipe r) ∧ (s.setRing l x).now = s.now ∧
    (s.setRing l x).mode = s.mode :=
  ⟨fun _ => rfl, fun _ => rfl, fun _ => rfl, fun _ => rfl, fun _ => rfl, fun _ _ => rfl, fun _ => rfl, fun _ => rfl,
    fun _ => rfl, rfl, rfl⟩
@[simp] theorem State.reads_setUnit (p : Port) (x : EventUnit) :
    (∀ q : Port, (s.setUnit p x).port q = s.port q) ∧ (∀ m : Lane, (s.setUnit p x).om m = s.om m) ∧
    (∀ i : HeadId, (s.setUnit p x).head i = s.head i) ∧ (∀ d : ChannelId, (s.setUnit p x).chan d = s.chan d) ∧
    (∀ m : Lane, (s.setUnit p x).ring m = s.ring m) ∧
    (∀ (m : Lane) (n : SlotId), (s.setUnit p x).order m n = s.order m n) ∧
    (∀ m : Lane, (s.setUnit p x).active m = s.active m) ∧ (∀ d : ChannelId, (s.setUnit p x).stay d = s.stay d) ∧
    (∀ r : RecipeId, (s.setUnit p x).recipe r = s.recipe r) ∧ (s.setUnit p x).now = s.now ∧
    (s.setUnit p x).mode = s.mode :=
  ⟨fun _ => rfl, fun _ => rfl, fun _ => rfl, fun _ => rfl, fun _ => rfl, fun _ _ => rfl, fun _ => rfl, fun _ => rfl,
    fun _ => rfl, rfl, rfl⟩
@[simp] theorem State.reads_setArbiter (x : Arbiter) :
    (∀ q : Port, (s.setArbiter x).port q = s.port q) ∧ (∀ m : Lane, (s.setArbiter x).om m = s.om m) ∧
    (∀ i : HeadId, (s.setArbiter x).head i = s.head i) ∧ (∀ d : ChannelId, (s.setArbiter x).chan d = s.chan d) ∧
    (∀ m : Lane, (s.setArbiter x).ring m = s.ring m) ∧ (∀ q : Port, (s.setArbiter x).unit q = s.unit q) ∧
    (∀ (m : Lane) (n : SlotId), (s.setArbiter x).order m n = s.order m n) ∧
    (∀ m : Lane, (s.setArbiter x).active m = s.active m) ∧ (∀ r : RecipeId, (s.setArbiter x).recipe r = s.recipe r) ∧
    (s.setArbiter x).now = s.now ∧ (s.setArbiter x).mode = s.mode :=
  ⟨fun _ => rfl, fun _ => rfl, fun _ => rfl, fun _ => rfl, fun _ => rfl, fun _ => rfl, fun _ _ => rfl, fun _ => rfl,
    fun _ => rfl, rfl, rfl⟩
@[simp] theorem State.reads_setFaults (x : FaultControl) :
    (∀ q : Port, (s.setFaults x).port q = s.port q) ∧ (∀ m : Lane, (s.setFaults x).om m = s.om m) ∧
    (∀ i : HeadId, (s.setFaults x).head i = s.head i) ∧ (∀ d : ChannelId, (s.setFaults x).chan d = s.chan d) ∧
    (∀ m : Lane, (s.setFaults x).ring m = s.ring m) ∧ (∀ q : Port, (s.setFaults x).unit q = s.unit q) ∧
    (∀ (m : Lane) (n : SlotId), (s.setFaults x).order m n = s.order m n) ∧
    (∀ m : Lane, (s.setFaults x).active m = s.active m) ∧ (∀ d : ChannelId, (s.setFaults x).stay d = s.stay d) ∧
    (∀ r : RecipeId, (s.setFaults x).recipe r = s.recipe r) ∧ (s.setFaults x).now = s.now ∧
    (s.setFaults x).mode = s.mode :=
  ⟨fun _ => rfl, fun _ => rfl, fun _ => rfl, fun _ => rfl, fun _ => rfl, fun _ => rfl, fun _ _ => rfl, fun _ => rfl,
    fun _ => rfl, fun _ => rfl, rfl, rfl⟩
@[simp] theorem State.reads_setCabinet (x : Cabinet) :
    (∀ q : Port, (s.setCabinet x).port q = s.port q) ∧ (∀ m : Lane, (s.setCabinet x).om m = s.om m) ∧
    (∀ i : HeadId, (s.setCabinet x).head i = s.head i) ∧ (∀ d : ChannelId, (s.setCabinet x).chan d = s.chan d) ∧
    (∀ m : Lane, (s.setCabinet x).ring m = s.ring m) ∧ (∀ q : Port, (s.setCabinet x).unit q = s.unit q) ∧
    (∀ (m : Lane) (n : SlotId), (s.setCabinet x).order m n = s.order m n) ∧
    (∀ m : Lane, (s.setCabinet x).active m = s.active m) ∧ (∀ d : ChannelId, (s.setCabinet x).stay d = s.stay d) ∧
    (∀ r : RecipeId, (s.setCabinet x).recipe r = s.recipe r) :=
  ⟨fun _ => rfl, fun _ => rfl, fun _ => rfl, fun _ => rfl, fun _ => rfl, fun _ => rfl, fun _ _ => rfl, fun _ => rfl,
    fun _ => rfl, fun _ => rfl⟩
@[simp] theorem State.reads_addRefs (rs : List RecipeId) :
    (∀ q : Port, (s.addRefs rs).port q = s.port q) ∧ (∀ m : Lane, (s.addRefs rs).om m = s.om m) ∧
    (∀ i : HeadId, (s.addRefs rs).head i = s.head i) ∧ (∀ d : ChannelId, (s.addRefs rs).chan d = s.chan d) ∧
    (∀ m : Lane, (s.addRefs rs).ring m = s.ring m) ∧ (∀ q : Port, (s.addRefs rs).unit q = s.unit q) ∧
    (∀ (m : Lane) (n : SlotId), (s.addRefs rs).order m n = s.order m n) ∧
    (∀ m : Lane, (s.addRefs rs).active m = s.active m) ∧ (∀ d : ChannelId, (s.addRefs rs).stay d = s.stay d) ∧
    (s.addRefs rs).now = s.now ∧ (s.addRefs rs).mode = s.mode :=
  ⟨fun _ => rfl, fun _ => rfl, fun _ => rfl, fun _ => rfl, fun _ => rfl, fun _ => rfl, fun _ _ => rfl, fun _ => rfl,
    fun _ => rfl, rfl, rfl⟩
@[simp] theorem State.reads_dropRefs (rs : List RecipeId) :
    (∀ q : Port, (s.dropRefs rs).port q = s.port q) ∧ (∀ m : Lane, (s.dropRefs rs).om m = s.om m) ∧
    (∀ i : HeadId, (s.dropRefs rs).head i = s.head i) ∧ (∀ d : ChannelId, (s.dropRefs rs).chan d = s.chan d) ∧
    (∀ m : Lane, (s.dropRefs rs).ring m = s.ring m) ∧ (∀ q : Port, (s.dropRefs rs).unit q = s.unit q) ∧
    (∀ (m : Lane) (n : SlotId), (s.dropRefs rs).order m n = s.order m n) ∧
    (∀ m : Lane, (s.dropRefs rs).active m = s.active m) ∧ (∀ d : ChannelId, (s.dropRefs rs).stay d = s.stay d) ∧
    (s.dropRefs rs).now = s.now ∧ (s.dropRefs rs).mode = s.mode :=
  ⟨fun _ => rfl, fun _ => rfl, fun _ => rfl, fun _ => rfl, fun _ => rfl, fun _ => rfl, fun _ _ => rfl, fun _ => rfl,
    fun _ => rfl, rfl, rfl⟩
@[simp] theorem State.reads_draw :
    (∀ q : Port, s.draw.port q = s.port q) ∧ (∀ m : Lane, s.draw.om m = s.om m) ∧
    (∀ i : HeadId, s.draw.head i = s.head i) ∧ (∀ d : ChannelId, s.draw.chan d = s.chan d) ∧
    (∀ m : Lane, s.draw.ring m = s.ring m) ∧ (∀ q : Port, s.draw.unit q = s.unit q) ∧
    (∀ (m : Lane) (n : SlotId), s.draw.order m n = s.order m n) ∧ (∀ m : Lane, s.draw.active m = s.active m) ∧
    (∀ d : ChannelId, s.draw.stay d = s.stay d) ∧ (∀ r : RecipeId, s.draw.recipe r = s.recipe r) ∧
    s.draw.now = s.now ∧ s.draw.mode = s.mode :=
  ⟨fun _ => rfl, fun _ => rfl, fun _ => rfl, fun _ => rfl, fun _ => rfl, fun _ => rfl, fun _ _ => rfl, fun _ => rfl,
    fun _ => rfl, fun _ => rfl, rfl, rfl⟩
@[simp] theorem State.reads_countGrant :
    (∀ q : Port, s.countGrant.port q = s.port q) ∧ (∀ m : Lane, s.countGrant.om m = s.om m) ∧
    (∀ i : HeadId, s.countGrant.head i = s.head i) ∧ (∀ d : ChannelId, s.countGrant.chan d = s.chan d) ∧
    (∀ m : Lane, s.countGrant.ring m = s.ring m) ∧ (∀ q : Port, s.countGrant.unit q = s.unit q) ∧
    (∀ (m : Lane) (n : SlotId), s.countGrant.order m n = s.order m n) ∧
    (∀ m : Lane, s.countGrant.active m = s.active m) ∧ (∀ d : ChannelId, s.countGrant.stay d = s.stay d) ∧
    (∀ r : RecipeId, s.countGrant.recipe r = s.recipe r) ∧ s.countGrant.now = s.now ∧ s.countGrant.mode = s.mode :=
  ⟨fun _ => rfl, fun _ => rfl, fun _ => rfl, fun _ => rfl, fun _ => rfl, fun _ => rfl, fun _ _ => rfl, fun _ => rfl,
    fun _ => rfl, fun _ => rfl, rfl, rfl⟩

/-- The references of a recipe are no part of what the recipe is. -/
@[simp] theorem State.recipe_dropRefs (rs : List RecipeId) (r : RecipeId) : (s.dropRefs rs).recipe r = s.recipe r := by
  simp only [State.recipe, State.dropRefs, get_tabulate]
  split <;> rfl

@[simp] theorem State.recipe_addRefs (rs : List RecipeId) (r : RecipeId) : (s.addRefs rs).recipe r = s.recipe r := by
  simp only [State.recipe, State.addRefs, get_tabulate]
  split <;> rfl

theorem State.recipes_dropRefs (rs : List RecipeId) (r : RecipeId) :
    (s.dropRefs rs).recipes.get r =
      { s.recipes.get r with refs := (s.recipes.get r).refs - if r ∈ rs then 1 else 0 } := by
  simp only [State.dropRefs, get_tabulate]
  split <;> rfl

theorem State.recipes_addRefs (rs : List RecipeId) (r : RecipeId) :
    (s.addRefs rs).recipes.get r =
      { s.recipes.get r with refs := (s.recipes.get r).refs + if r ∈ rs then 1 else 0 } := by
  simp only [State.addRefs, get_tabulate]
  split <;> rfl

/-! ### Writing back what is there -/

theorem LaneTbl.set_get {α : Type} (t : LaneTbl α) (l : Lane) : t.set l (t.get l) = t := by cases l <;> rfl

theorem PortTbl.set_get {α : Type} (t : PortTbl α) (p : Port) : t.set p (t.get p) = t := by cases p <;> rfl

theorem vector_set_get {α : Type} {n : Nat} (v : Vector α n) (i : Fin n) : v.set i (v.get i) = v :=
  Vector.ext fun j hj => by
    have := Vector.get_set_fin v i ⟨j, hj⟩ (v.get i)
    simp only [Vector.get_eq_getElem] at this ⊢
    rw [this]
    split
    · rename_i h; rw [← h]
    · rfl

theorem State.setOm_self (l : Lane) : s.setOm l (s.om l) = s :=
  congrArg (fun t => { s with oms := t }) (LaneTbl.set_get s.oms l)

theorem State.setUnit_self (p : Port) : s.setUnit p (s.unit p) = s :=
  congrArg (fun t => { s with units := t }) (PortTbl.set_get s.units p)

theorem State.setHead_self (h : HeadId) : s.setHead h (s.head h) = s :=
  congrArg (fun t => { s with heads := t }) (vector_set_get s.heads h)

theorem State.setChan_self (c : ChannelId) : s.setChan c (s.chan c) = s :=
  congrArg (fun t => { s with channels := t }) (vector_set_get s.channels c)

theorem State.setSlot_self {l : Lane} {k : SlotId} {o : Option Order} (h : s.order l k = o) : s.setSlot l k o = s := by
  subst h
  have hslots : (s.om l).slots.set k (s.order l k) = (s.om l).slots := vector_set_get _ k
  rw [State.setSlot, State.modOm_eq, hslots]
  exact s.setOm_self l

theorem State.heads_ext {t u : State} (h : ∀ i, t.head i = u.head i) : t.heads = u.heads :=
  Vector.ext fun j hj => by simpa [State.head, Vector.get_eq_getElem] using h ⟨j, hj⟩

/-! ### Slots and active orders (R10) -/

@[simp] theorem State.order_setOm (l m : Lane) (x : OrderManager) (n : SlotId) :
    (s.setOm l x).order m n = if m = l then x.slots.get n else s.order m n := by
  simp only [State.order, State.om_setOm]
  split <;> rfl

theorem State.om_setSlot (l m : Lane) (k : SlotId) (o : Option Order) :
    (s.setSlot l k o).om m = if m = l then { s.om l with slots := (s.om l).slots.set k o } else s.om m := by
  simp [State.setSlot]

theorem activeOnly_eq_some {k n : SlotId} {x : Option Order} {o : Order} :
    activeOnly n x = some (k, o) ↔ n = k ∧ x = some o ∧ o.state ≠ .posted := by
  unfold activeOnly
  split
  · rename_i y
    by_cases h : y.state = .posted
    · simp only [h, if_true, reduceCtorEq, false_iff, not_and]
      rintro - hy
      cases hy
      exact not_not.mpr h
    · simp only [h, if_false, Option.some.injEq, Prod.mk.injEq]
      constructor
      · rintro ⟨rfl, rfl⟩; exact ⟨rfl, rfl, h⟩
      · rintro ⟨rfl, hy, -⟩; exact ⟨rfl, hy⟩
  · simp

variable {s}

theorem State.order_of_active {l : Lane} {k : SlotId} {o : Order} (h : s.active l = some (k, o)) :
    s.order l k = some o ∧ o.state ≠ .posted := by
  obtain ⟨n, -, hn⟩ := List.exists_of_findSome?_eq_some h
  obtain ⟨rfl, ho, hstate⟩ := activeOnly_eq_some.mp hn
  exact ⟨ho, hstate⟩

/-- Where the active order's slot still holds an active order, and no other slot of the lane changed, that is the active
order. -/
theorem State.active_of_slot {t : State} {l : Lane} {k : SlotId} {o o' : Order} (h : s.active l = some (k, o))
    (hk : t.order l k = some o') (hstate : o'.state ≠ .posted) (hother : ∀ n, n ≠ k → t.order l n = s.order l n) :
    t.active l = some (k, o') := by
  obtain ⟨before, n, after, hslots, hn, hbefore⟩ := List.findSome?_eq_some_iff.mp h
  obtain ⟨rfl, -, -⟩ := activeOnly_eq_some.mp hn
  refine List.findSome?_eq_some_iff.mpr ⟨before, n, after, hslots, activeOnly_eq_some.mpr ⟨rfl, hk, hstate⟩, ?_⟩
  intro x hx
  have hnodup : (before ++ n :: after).Nodup := hslots ▸ (List.nodup_finRange 4 : allSlots.Nodup)
  have hne : x ≠ n := fun e => (List.nodup_append.mp hnodup).2.2 x hx n List.mem_cons_self e
  rw [hother x hne]
  exact hbefore x hx

theorem State.active_congr {t : State} {l : Lane} (h : ∀ n, t.order l n = s.order l n) : t.active l = s.active l := by
  simp only [State.active, h]

theorem State.posted_of_active_none {l : Lane} (h : s.active l = none) {k : SlotId} {o : Order}
    (ho : s.order l k = some o) : o.state = .posted := by
  by_contra hstate
  have hk := List.findSome?_eq_none_iff.mp h k (List.mem_finRange k)
  rw [activeOnly_eq_some.mpr ⟨rfl, ho, hstate⟩] at hk
  cases hk

theorem State.modOrder_of_order {l : Lane} {k : SlotId} {o : Order} (h : s.order l k = some o) (f : Order → Order) :
    s.modOrder l k f = s.setSlot l k (some (f o)) := by
  rw [State.modOrder, h]

theorem State.modJoint_of_order {l : Lane} {k : SlotId} {o : Order} (h : s.order l k = some o) (i : Nat)
    (f : Joint → Joint) : s.modJoint l k i f = s.setSlot l k (some (o.modJoint i f)) :=
  State.modOrder_of_order h _

theorem State.mapJoints_of_order {l : Lane} {k : SlotId} {o : Order} (h : s.order l k = some o) (f : Joint → Joint) :
    s.mapJoints l k f = s.setSlot l k (some { o with joints := o.joints.map f }) := State.modOrder_of_order h _

theorem State.setSlot_setSlot (l : Lane) (k : SlotId) (x y : Option Order) :
    (s.setSlot l k x).setSlot l k y = s.setSlot l k y := by
  cases l <;> simp [State.setSlot, State.setOm, State.om, LaneTbl.set, LaneTbl.get]

variable (s)

/-! ### Stay reservations (R72, R73) -/

@[simp] theorem State.stay_setArbiter (x : Arbiter) (c : ChannelId) : (s.setArbiter x).stay c = x.stays.get c := rfl

theorem State.stay_liftStays (w : HeadId → Bool) (c : ChannelId) :
    (s.liftStays w).stay c = (s.stay c).filter fun h => !w h := by
  simp only [State.liftStays, State.modArbiter_eq, State.stay_setArbiter, get_tabulate]
  cases s.stay c with
  | none => rfl
  | some h => by_cases hw : w h = true <;> simp [hw, Option.filter]

theorem State.arbiter_liftStays (w : HeadId → Bool) :
    (s.liftStays w).arbiter = { s.arbiter with stays := (s.liftStays w).arbiter.stays } := rfl

/-! ### Records (R119, R122, R128) -/

/-- The marks of the reader's unit once a record has joined the ring. -/
def State.marksAfter (s : State) (l : Lane) : LaneTbl Bool :=
  if (s.ring l).records.isEmpty then (s.unit (readerPort l (s.ring l).reader)).results.set l true
  else (s.unit (readerPort l (s.ring l).reader)).results

theorem State.appendRecord_eq (l : Lane) (rec : Record) :
    s.appendRecord l rec =
      (s.setRing l { s.ring l with records := (s.ring l).records ++ [rec] }).setUnit (readerPort l (s.ring l).reader)
        { s.unit (readerPort l (s.ring l).reader) with results := s.marksAfter l } := by
  unfold State.appendRecord State.marksAfter
  dsimp only
  split
  · rfl
  · exact (State.setUnit_self _ _).symm

theorem State.writeRecord_eq (l : Lane) (rec : Record) :
    s.writeRecord l rec =
      (s.setRing l { s.ring l with
        records := (s.ring l).records ++ [rec], reserved := (s.ring l).reserved - rec.size }).setUnit
        (readerPort l (s.ring l).reader)
        { s.unit (readerPort l (s.ring l).reader) with results := s.marksAfter l } := by
  rw [State.writeRecord, State.appendRecord_eq]
  simp only [State.unreserve, State.modRing_eq, State.ring_setRing, if_true, State.marksAfter, State.reads_setRing]
  cases l <;> simp [State.setRing, State.setUnit, LaneTbl.set, State.ring, State.unit, LaneTbl.get]

/-! ### Parking (R57, R68) -/

/-- A head that channel c, parked on `parked`, leaves loses its connected channel. -/
def HeadRec.leave (c : ChannelId) (parked : Option HeadId) (i : HeadId) (r : HeadRec) : HeadRec :=
  if parked = some i ∧ r.connected = some c then { r with connected := none } else r

theorem State.unpark_eq (c : ChannelId) :
    s.setParked c none =
      (s.mapHeads (HeadRec.leave c (s.chan c).parked)).setChan c { s.chan c with parked := none } := by
  have hheads : ∀ t : State, t.chan = s.chan → (∀ i, t.head i = HeadRec.leave c (s.chan c).parked i (s.head i)) →
      { t with heads := s.heads } = s →
      t.modChan c (fun r => { r with parked := none }) =
        (s.mapHeads (HeadRec.leave c (s.chan c).parked)).setChan c { s.chan c with parked := none } := by
    intro t hchan hhead hrest
    have : t = s.mapHeads (HeadRec.leave c (s.chan c).parked) := by
      have h1 : t.heads = (s.mapHeads (HeadRec.leave c (s.chan c).parked)).heads :=
        State.heads_ext fun i => by rw [hhead, State.head_mapHeads]
      calc
        t = { ({ t with heads := s.heads } : State) with heads := t.heads } := rfl
        _ = s.mapHeads (HeadRec.leave c (s.chan c).parked) := by rw [hrest, h1]; rfl
    rw [this]
    rfl
  unfold State.setParked
  split
  · rename_i old hold
    split
    · rename_i hconn
      refine hheads _ rfl (fun i => ?_) rfl
      simp only [State.modHead_eq, State.head_setHead, HeadRec.leave, hold, Option.some.injEq]
      by_cases hi : i = old
      · subst hi; simp [hconn]
      · simp [hi, Ne.symm hi]
    · rename_i hconn
      refine hheads _ rfl (fun i => ?_) rfl
      simp only [HeadRec.leave, hold, Option.some.injEq]
      rw [if_neg]
      rintro ⟨rfl, h⟩
      exact hconn h
  · rename_i hold
    refine hheads _ rfl (fun i => ?_) rfl
    simp [HeadRec.leave, hold]

theorem State.park_eq (c : ChannelId) (h : HeadId) :
    s.setParked c (some h) =
      ((s.mapHeads (HeadRec.leave c (s.chan c).parked)).setChan c { s.chan c with parked := some h }).setHead h
        { HeadRec.leave c (s.chan c).parked h (s.head h) with connected := some c } := by
  have h1 := s.unpark_eq c
  have h2 : s.setParked c (some h) =
      ((s.setParked c none).setChan c { s.chan c with parked := some h }).modHead h fun r =>
        { r with connected := some c } := by
    unfold State.setParked
    split
    · split <;> simp [State.setChan, State.setHead, State.chan, Vector.set_set]
    · simp [State.setChan, State.setHead, State.chan, Vector.set_set]
  rw [h2, h1]
  simp [State.setChan, State.head, State.mapHeads, Vector.set_set, State.setHead]

/-! ### Segments (R94) -/

/-- What the end of a running segment makes of a heating. -/
def State.endedHeat (s : State) (g : Segment) (reason : EndReason) (w : Heating) : Heating :=
  { w with
    energy := w.energy + meteredEnergy s.draws g reason
    entries := w.entries ++ [{ reason := reason, elapsed := s.elapsedOf g w reason }] }

variable {s}

theorem State.recordSegment_of_segment {c : ChannelId} {g : Segment} (h : s.segmentOf c = some g) (reason : EndReason) :
    s.recordSegment c reason =
      (s.setChan c { s.chan c with heat := (s.chan c).heat.map (s.endedHeat g reason) }).draw := by
  rw [State.recordSegment, h]
  rfl

theorem State.recordSegment_of_none {c : ChannelId} (h : s.segmentOf c = none) (reason : EndReason) :
    s.recordSegment c reason = s := by
  rw [State.recordSegment, h]

/-- A module meters at most the power over the maximum time, and at least a target it has reported (log entry 5). -/
theorem meteredEnergy_le {reason : EndReason} (h : reason ≠ .energy) (draw : Nat) (g : Segment) :
    meteredEnergy draw g reason ≤ g.power * g.maxTime / 1000 := by
  have hfree : Config.freeEnergy draw % (g.power * g.maxTime / 1000 + 1) ≤ g.power * g.maxTime / 1000 :=
    Nat.lt_succ_iff.mp (Nat.mod_lt _ (Nat.succ_pos _))
  cases reason with
  | energy => exact absurd rfl h
  | temp | time | cut => exact hfree

theorem meteredEnergy_energy (draw : Nat) {g : Segment} {target : Nat} (h : g.energyTarget = some target) :
    target ≤ meteredEnergy draw g .energy ∧
      meteredEnergy draw g .energy ≤ max target (g.power * g.maxTime / 1000) := by
  have hfree : Config.freeEnergy draw % (g.power * g.maxTime / 1000 + 1) ≤ g.power * g.maxTime / 1000 :=
    Nat.lt_succ_iff.mp (Nat.mod_lt _ (Nat.succ_pos _))
  simp only [meteredEnergy, h, Option.getD_some]
  omega

/-! ### The halted-joint list (R106, R165) -/

/-- The order with its list empty: a HALTED one is RUNNING. -/
def Order.unhalted (o : Order) : Order := if o.state = .halted then { o with state := .running } else o

theorem Order.unhalted_eq (o : Order) :
    o.unhalted = { o with state := if o.state = .halted then .running else o.state } := by
  unfold Order.unhalted
  split <;> rfl

theorem State.leaveHalted_of_cons {l : Lane} {k : SlotId} (h : (s.om l).halted ≠ []) : s.leaveHalted l k = s := by
  unfold State.leaveHalted
  rw [if_neg (by simpa using h)]

/-- With the list empty the order is not HALTED, and where it was, its lane port is told so. -/
theorem State.leaveHalted_of_nil {l : Lane} {k : SlotId} {o : Order} (h : (s.om l).halted = [])
    (ho : s.order l k = some o) :
    s.leaveHalted l k = (s.setSlot l k (some o.unhalted)).setUnit (lanePort l) { s.unit (lanePort l) with
      halted := if o.state = .halted then false else (s.unit (lanePort l)).halted } := by
  unfold State.leaveHalted Order.unhalted
  rw [h, ho]
  by_cases hstate : o.state = .halted
  · simp [hstate, State.modOrder_of_order ho, State.reportHalted]
  · have hunit : s.setUnit (lanePort l) { s.unit (lanePort l) with halted := (s.unit (lanePort l)).halted } = s :=
      s.setUnit_self _
    simp only [List.isEmpty_nil, if_true, hstate, if_false, s.setSlot_self ho, hunit]

end Sys2Proof.Machine
end

section
/-! PROOF. The order commands that judge an order before it is active: POST_ORDER with the resolution of type codes,
RELEASE (R4 to R6, R39). -/

namespace Sys2Proof.Machine

/-! ### The checks of POST_ORDER (R4) -/

theorem exec_postOrder_refused {p : Port} {l : Lane} {tag : Byte} {x : List Byte} {s : State} {code : AnswerCode}
    (hport : portLane p = some l) (htakes : s.takes ⟨p, 0x10, tag, x⟩) (hlen : x.length = 11 + 2 * byteAt x 10)
    (hbody : postOrderBody x l s = .error code) :
    exec (.postOrder p tag x) s = .next (s.answered ⟨p, 0x10, tag, x⟩ code []) := by
  have hok : postLengthOk x = true := beq_iff_eq.mpr hlen
  change serveLane _ (postLengthOk x) _ _ = _
  rw [hok]
  exact serveLane_refused hport htakes hbody

theorem exec_postOrder_accepted {p : Port} {l : Lane} {tag : Byte} {x y : List Byte} {s t : State}
    (hport : portLane p = some l) (htakes : s.takes ⟨p, 0x10, tag, x⟩) (hlen : x.length = 11 + 2 * byteAt x 10)
    (hbody : postOrderBody x l s = .ok (t, y)) :
    exec (.postOrder p tag x) s = .next (t.answered ⟨p, 0x10, tag, x⟩ .ok y) := by
  have hok : postLengthOk x = true := beq_iff_eq.mpr hlen
  change serveLane _ (postLengthOk x) _ _ = _
  rw [hok]
  exact serveLane_accepted hport htakes hbody

theorem parsePost_valuesOk_iff (x : List Byte) : (parsePost x).valuesOk = true ↔
    1 ≤ byteAt x 10 ∧ byteAt x 10 ≤ 16 ∧ (∀ i < byteAt x 10, byteAt x (11 + 2 * i) < 16) ∧
      ((parsePost x).deadline = 0 ∨ 100 ≤ (parsePost x).deadline ∧ (parsePost x).deadline ≤ 60000) := by
  have hjoints : (∀ j ∈ (parsePost x).joints, j.head < 16) ↔ ∀ i < byteAt x 10, byteAt x (11 + 2 * i) < 16 := by
    simp [parsePost, postedJointAt]
  have hlength : (parsePost x).joints.length = byteAt x 10 := by simp [parsePost]
  simp only [PostOperands.valuesOk, Bool.and_eq_true, Bool.or_eq_true, decide_eq_true_eq, beq_iff_eq,
    List.all_eq_true, hjoints, hlength, and_assoc]

section
variable {x : List Byte} {l : Lane} {s : State}

theorem postOrderBody_badValue (h : (parsePost x).valuesOk = false) : postOrderBody x l s = .error .badValue := by
  simp only [postOrderBody, h, need_false]

theorem postOrderBody_unconfigured (h : (parsePost x).valuesOk = true) (hmode : s.mode = .unconfigured) :
    postOrderBody x l s = .error .unconfigured := by
  simp only [postOrderBody, h, need_true, needMode_of_unconfigured hmode]

theorem postOrderBody_quenched (h : (parsePost x).valuesOk = true) (hmode : s.mode = .quenched) :
    postOrderBody x l s = .error .quenched := by
  simp only [postOrderBody, h, need_true, needMode_of_quenched hmode]

variable (h : (parsePost x).valuesOk = true) (hsetup : s.mode ≠ .unconfigured) (hquench : s.mode ≠ .quenched)
include h hsetup hquench

theorem postOrderBody_noSlot (hfree : s.order l (s.om l).postPtr ≠ none) : postOrderBody x l s = .error .noSlot := by
  simp only [postOrderBody, h, need_true, needMode_of_ne hsetup hquench,
    Option.isNone_eq_false_iff.mpr (Option.isSome_iff_ne_none.mpr hfree), need_false]

variable (hfree : s.order l (s.om l).postPtr = none)
include hfree

theorem postOrderBody_unboundType (hb : s.resolve l (parsePost x).code = none) :
    postOrderBody x l s = .error .unboundType := by
  simp only [postOrderBody, h, need_true, needMode_of_ne hsetup hquench, hfree, Option.isNone_none, hb]

theorem postOrderBody_resolved {b : Binding} (hb : s.resolve l (parsePost x).code = some b) :
    postOrderBody x l s =
      need (classesMapped b (parsePost x).joints) .classUnmapped (need (s.recipesDefined b (parsePost x).joints)
        .recipeEmpty (need (s.headsOnLane l (parsePost x).joints) .headNotLane
          (.ok (s.storeOrder l (acceptedOrder (parsePost x) b), be1 (s.om l).postPtr.val)))) := by
  simp only [postOrderBody, h, need_true, needMode_of_ne hsetup hquench, hfree, Option.isNone_none, hb]
end

theorem classesMapped_iff (b : Binding) (js : List PostedJoint) :
    classesMapped b js = true ↔ ∀ j ∈ js, (b.classMap.get j.cls).isSome := List.all_eq_true

theorem State.recipesDefined_iff (s : State) (b : Binding) (js : List PostedJoint) :
    s.recipesDefined b js = true ↔ ∀ j ∈ js, (s.recipes.get (recipeOf b j)).recipe.isSome := List.all_eq_true

theorem State.headsOnLane_iff (s : State) (l : Lane) (js : List PostedJoint) :
    s.headsOnLane l js = true ↔ ∀ j ∈ js, (s.head (Fin.ofNat 16 j.head)).lane = some l := by
  simp [State.headsOnLane, State.ofLane]

/-- Settles O13: each check of POST_ORDER is one step of its body, taken where the earlier ones have passed. -/
theorem postOrderChecksInOrder : Obligations.PostOrderChecksInOrder := by
  intro p l tag x s hport htakes hlen
  dsimp only
  rw [← parsePost_valuesOk_iff]
  refine ⟨fun hv => ?_, fun hv hmode => ?_, fun hv hmode => ?_, fun hv hsetup hquench => ⟨fun hfree => ?_,
    fun hfree hb => ?_, fun b hfree hb => ?_⟩⟩
  · exact exec_postOrder_refused hport htakes hlen (postOrderBody_badValue (Bool.eq_false_iff.mpr hv))
  · exact exec_postOrder_refused hport htakes hlen (postOrderBody_unconfigured hv hmode)
  · exact exec_postOrder_refused hport htakes hlen (postOrderBody_quenched hv hmode)
  · exact exec_postOrder_refused hport htakes hlen (postOrderBody_noSlot hv hsetup hquench hfree)
  · exact exec_postOrder_refused hport htakes hlen (postOrderBody_unboundType hv hsetup hquench hfree hb)
  · have hbody := postOrderBody_resolved hv hsetup hquench hfree hb
    refine ⟨fun ⟨j, hj, hnone⟩ => ?_, fun hmap => ⟨fun ⟨j, hj, hnone⟩ => ?_, fun hdef ⟨j, hj, hlane⟩ => ?_⟩⟩
    · have hfalse : classesMapped b (parsePost x).joints = false := by
        rw [Bool.eq_false_iff, Ne, classesMapped_iff]
        intro hall
        have := hall j hj
        simp [hnone] at this
      rw [hfalse, need_false] at hbody
      exact exec_postOrder_refused hport htakes hlen hbody
    · have hfalse : s.recipesDefined b (parsePost x).joints = false := by
        rw [Bool.eq_false_iff, Ne, State.recipesDefined_iff]
        intro hall
        have := hall j hj
        simp [hnone] at this
      rw [(classesMapped_iff _ _).mpr hmap, need_true, hfalse, need_false] at hbody
      exact exec_postOrder_refused hport htakes hlen hbody
    · have hfalse : s.headsOnLane l (parsePost x).joints = false := by
        rw [Bool.eq_false_iff, Ne, State.headsOnLane_iff]
        exact fun hall => hlane (hall j hj)
      rw [(classesMapped_iff _ _).mpr hmap, need_true, (State.recipesDefined_iff _ _ _).mpr hdef, need_true, hfalse,
        need_false] at hbody
      exact exec_postOrder_refused hport htakes hlen hbody

/-! ### The order stored (R1, R2, R5) -/

section
variable (s : State) (l : Lane) (o : Order)

theorem State.order_storeOrder (m : Lane) (n : SlotId) :
    (s.storeOrder l o).order m n = if m = l ∧ n = (s.om l).postPtr then some o else s.order m n := by
  simp only [State.storeOrder, State.reportPost, State.modUnit_eq, State.reads_setUnit, State.modOm_eq,
    State.order_setOm, State.reads_addRefs]
  by_cases hm : m = l
  · subst hm
    simp only [if_true, true_and]
    exact (State.order_setSlot s m m _ n (some o)).trans (by simp)
  · simp [hm, State.order_setSlot]

theorem State.om_storeOrder (m : Lane) :
    (s.storeOrder l o).om m = { s.om m with
      slots := ((s.storeOrder l o).om m).slots
      postPtr := if m = l then (s.om l).postPtr + 1 else (s.om m).postPtr } := by
  simp only [State.storeOrder, State.reportPost, State.modUnit_eq, State.reads_setUnit, State.modOm_eq,
    State.om_setOm, State.reads_addRefs, State.om_setSlot]
  by_cases hm : m = l
  · simp [hm]
  · simp [hm]

theorem State.unit_storeOrder (q : Port) :
    (s.storeOrder l o).unit q = if q = lanePort l then
      { s.unit q with
        slotFree := if (s.unit q).pollMark = true ∨ ∀ n, ((s.storeOrder l o).order l n).isSome then none
          else (s.unit q).slotFree
        pollMark := false }
      else s.unit q := by
  have horder : ∀ n, (s.storeOrder l o).order l n =
      (((s.setSlot l (s.om l).postPtr (some o)).addRefs o.recipes).modOm l
        fun om => { om with postPtr := om.postPtr + 1 }).order l n := fun n => rfl
  simp only [horder]
  simp only [State.storeOrder, State.reportPost, State.modUnit_eq, State.unit_setUnit]
  by_cases hq : q = lanePort l
  · subst hq
    simp [allSlots, List.all_eq_true]
  · simp [hq]

theorem State.recipes_storeOrder (r : RecipeId) :
    (s.storeOrder l o).recipes.get r =
      { s.recipes.get r with refs := (s.recipes.get r).refs + if r ∈ o.recipes then 1 else 0 } :=
  State.recipes_addRefs _ _ _
end

theorem nodup_eraseDups {α : Type} [BEq α] [LawfulBEq α] : ∀ as : List α, as.eraseDups.Nodup
  | [] => List.nodup_nil
  | a :: as => by
    rw [List.eraseDups_cons, List.nodup_cons, List.mem_eraseDups]
    exact ⟨by simp, nodup_eraseDups _⟩
termination_by as => as.length
decreasing_by exact Nat.lt_succ_of_le (List.length_filter_le _ _)

theorem acceptedOrder_nodup (x : PostOperands) (b : Binding) : (acceptedOrder x b).recipes.Nodup :=
  nodup_eraseDups _

theorem mem_acceptedOrder_recipes (x : PostOperands) (b : Binding) (r : RecipeId) :
    r ∈ (acceptedOrder x b).recipes ↔ ∃ j ∈ x.joints, recipeOf b j = r := by
  simp [acceptedOrder, List.mem_eraseDups]

/-- Settles O14: with every check passed the body stores the accepted order. -/
theorem postOrderStoresOrder : Obligations.PostOrderStoresOrder := by
  intro p l tag x b s hport htakes hlen
  dsimp only
  intro hv hsetup hquench hfree hb hmap hdef hlanes
  have hbody := postOrderBody_resolved hv hsetup hquench hfree hb
  rw [(classesMapped_iff _ _).mpr hmap, need_true, (State.recipesDefined_iff _ _ _).mpr hdef, need_true,
    (State.headsOnLane_iff _ _ _).mpr hlanes, need_true] at hbody
  exact ⟨s.storeOrder l (acceptedOrder (parsePost x) b), acceptedOrder (parsePost x) b,
    exec_postOrder_accepted hport htakes hlen hbody, rfl, rfl, rfl, rfl, rfl, acceptedOrder_nodup _ _,
    mem_acceptedOrder_recipes _ _, rfl, rfl, rfl, rfl, rfl, s.order_storeOrder l _,
    s.om_storeOrder l _,
    s.recipes_storeOrder l _, s.unit_storeOrder l _, rfl, rfl, rfl, rfl, rfl, rfl, rfl, rfl, rfl, rfl⟩

/-! ### The resolution of type codes (R39) -/

theorem State.bindingOf_eq_none {s : State} {code : TypeCode} :
    s.bindingOf code = none ↔ ¬ ∃ n b, s.bindings.get n = some b ∧ b.code = code := by
  simp [State.bindingOf, List.findSome?_eq_none_iff, Option.filter_eq_none_iff]

theorem State.bindingOf_eq_some {s : State} {code : TypeCode} {b : Binding} (h : s.bindingOf code = some b) :
    ∃ n, s.bindings.get n = some b ∧ b.code = code := by
  obtain ⟨n, -, hn⟩ := List.exists_of_findSome?_eq_some h
  obtain ⟨hb, hcode⟩ := Option.filter_eq_some_iff.mp hn
  exact ⟨n, hb, beq_iff_eq.mp hcode⟩

theorem State.resolve_of_bindingOf {s : State} {l : Lane} {code : TypeCode} {b : Binding}
    (h : s.bindingOf code = some b) : s.resolve l code = some b := by
  simp only [State.resolve, h]

theorem State.resolve_of_unbound {s : State} {l : Lane} {code : TypeCode} (h : s.bindingOf code = none) :
    s.resolve l code = if s.family.getLsbD (groupOf code) then s.defaultBinding l else none := by
  simp only [State.resolve, h]

theorem State.defaultBinding_of_default {s : State} {l : Lane} {n : BindingId} (h : s.defaults.get l = some n) :
    s.defaultBinding l = s.bindings.get n := by
  simp only [State.defaultBinding, h]

theorem State.defaultBinding_of_none {s : State} {l : Lane} (h : s.defaults.get l = none) :
    s.defaultBinding l = none := by
  simp only [State.defaultBinding, h]

/-- Settles O15: a code that some binding holds is found in the table; else the lane's default is looked at. -/
theorem typeCodesResolveByTheirSteps : Obligations.TypeCodesResolveByTheirSteps := by
  refine fun s l code => ⟨fun hbound => ?_, fun hunbound => ?_⟩
  · cases hfound : s.bindingOf code with
    | none => exact absurd hbound (State.bindingOf_eq_none.mp hfound)
    | some b =>
      obtain ⟨n, hn, hcode⟩ := State.bindingOf_eq_some hfound
      exact ⟨n, b, hn, hcode, State.resolve_of_bindingOf hfound⟩
  · rw [State.resolve_of_unbound (State.bindingOf_eq_none.mpr hunbound)]
    refine ⟨fun n b hflag hdef hn => ?_, ?_⟩
    · rw [if_pos hflag, State.defaultBinding_of_default hdef, hn]
    · rintro (hflag | hdef | ⟨n, hdef, hn⟩)
      · rw [hflag]
        rfl
      · rw [State.defaultBinding_of_none hdef, ite_self]
      · rw [State.defaultBinding_of_default hdef, hn, ite_self]

/-! ### RELEASE (R6) -/

theorem releaseBody_unconfigured {l : Lane} {s : State} (h : s.mode = .unconfigured) :
    releaseBody l s = .error .unconfigured := by
  rw [releaseBody, needMode_of_unconfigured h]

theorem releaseBody_quenched {l : Lane} {s : State} (h : s.mode = .quenched) :
    releaseBody l s = .error .quenched := by
  rw [releaseBody, needMode_of_quenched h]

theorem releaseBody_of_mode {l : Lane} {s : State} (hsetup : s.mode ≠ .unconfigured) (hquench : s.mode ≠ .quenched) :
    releaseBody l s =
      need (decide ((s.om l).released < (s.postedOrders l).length)) .range (.ok (s.releaseOrder l, [])) := by
  rw [releaseBody, needMode_of_ne hsetup hquench]

/-- Settles O16: in a working mode the one check of RELEASE is that a POSTED order is left to release. -/
theorem releaseRaisesCountUpToPosted : Obligations.ReleaseRaisesCountUpToPosted := by
  intro p l tag s hport htakes
  dsimp only
  refine ⟨fun hmode => ?_, fun hmode => ?_, fun hsetup hquench => ⟨fun hle => ?_, fun hlt => ?_⟩⟩
  · exact serveLane_refused hport htakes (releaseBody_unconfigured hmode)
  · exact serveLane_refused hport htakes (releaseBody_quenched hmode)
  · have hbody := releaseBody_of_mode (l := l) hsetup hquench
    rw [decide_eq_false (Nat.not_lt.mpr hle), need_false] at hbody
    exact serveLane_refused hport htakes hbody
  · have hbody := releaseBody_of_mode (l := l) hsetup hquench
    rw [decide_eq_true hlt, need_true] at hbody
    exact serveLane_accepted hport htakes hbody

end Sys2Proof.Machine
end

section
/-! PROOF. The tables that the supervisor writes: recipes, bindings, the settings and masks of heads, the budget and the
restoring of channels (chapters 2 to 5). -/

namespace Sys2Proof.Machine

/-! ### Recipes (R29 to R32) -/

theorem optionWithin_targetOf {v lo hi : Nat} :
    optionWithin (targetOf v) lo hi = true ↔ v = 0 ∨ lo ≤ v ∧ v ≤ hi := by
  unfold targetOf
  split <;> simp [optionWithin, *]

theorem targetOf_below {v limit : Nat} : (targetOf v).all (fun t => decide (t < limit)) = true ↔ v = 0 ∨ v < limit := by
  unfold targetOf
  split <;> simp [*]

theorem isSome_targetOf {v : Nat} : (targetOf v).isSome = true ↔ v ≠ 0 := by
  unfold targetOf
  split <;> simp [*]

/-- The ranges of one segment, with its targets as the payload gives them (R29, R30). -/
theorem segmentOk_iff {limit power maxTime temp energy : Nat} {required : Bool} :
    segmentOk limit ⟨power, maxTime, targetOf temp, targetOf energy, required⟩ = true ↔
      power ≤ 350 ∧ 10 ≤ maxTime ∧ maxTime ≤ 30000 ∧ (temp = 0 ∨ 200 ≤ temp ∧ temp ≤ 900 ∧ temp < limit) ∧
        energy ≤ 5000 ∧ (required = true → temp ≠ 0 ∨ energy ≠ 0) := by
  have hrequired : (required = false ∨ temp ≠ 0) ∨ energy ≠ 0 ↔ (required = true → temp ≠ 0 ∨ energy ≠ 0) := by
    cases required <;> simp
  simp only [segmentOk, Bool.and_eq_true, Bool.or_eq_true, Bool.not_eq_true', decide_eq_true_eq, isSome_targetOf,
    optionWithin_targetOf, targetOf_below, hrequired]
  constructor
  · rintro ⟨⟨⟨⟨⟨⟨hp, hlow⟩, hhigh⟩, htemp⟩, henergy⟩, hreq⟩, hlimit⟩
    exact ⟨hp, hlow, hhigh, by omega, by omega, hreq⟩
  · rintro ⟨hp, hlow, hhigh, htemp, henergy, hreq⟩
    exact ⟨⟨⟨⟨⟨⟨hp, hlow⟩, hhigh⟩, by omega⟩, by omega⟩, hreq⟩, by omega⟩

theorem parseRecipe_valuesOk_iff (x : List Byte) : (parseRecipe x).valuesOk = true ↔
    byteAt x 0 < 32 ∧ 1 ≤ byteAt x 6 ∧ byteAt x 6 ≤ 8 ∧ 300 ≤ pairAt x 1 ∧ pairAt x 1 ≤ 950 ∧ pairAt x 3 ≤ 5000 ∧
      byteAt x 5 ≤ 3 ∧ ∀ i < byteAt x 6, segmentOk (pairAt x 1) (segmentAt x i) = true := by
  have hsegments : (∀ g ∈ (parseRecipe x).segments, segmentOk (parseRecipe x).overtemp g = true) ↔
      ∀ i < byteAt x 6, segmentOk (pairAt x 1) (segmentAt x i) = true := by
    simp [parseRecipe]
  have hlength : (parseRecipe x).segments.length = byteAt x 6 := by simp [parseRecipe]
  simp only [RecipeOperands.valuesOk, Bool.and_eq_true, decide_eq_true_eq, List.all_eq_true, hsegments, hlength, and_assoc]
  exact Iff.rfl

theorem exec_writeRecipe_refused {tag : Byte} {x : List Byte} {s : State} {code : AnswerCode}
    (htakes : s.takes ⟨.supervisor, 0x20, tag, x⟩) (hlen : x.length = 7 + 9 * byteAt x 6)
    (hbody : writeRecipeBody x s = .error code) :
    exec (.writeRecipe .supervisor tag x) s = .next (s.answered ⟨.supervisor, 0x20, tag, x⟩ code []) := by
  have hok : recipeLengthOk x = true := beq_iff_eq.mpr hlen
  change serveSupervisor _ (recipeLengthOk x) _ _ = _
  rw [hok]
  exact serveSupervisor_refused rfl htakes hbody

theorem exec_writeRecipe_accepted {tag : Byte} {x y : List Byte} {s t : State}
    (htakes : s.takes ⟨.supervisor, 0x20, tag, x⟩) (hlen : x.length = 7 + 9 * byteAt x 6)
    (hbody : writeRecipeBody x s = .ok (t, y)) :
    exec (.writeRecipe .supervisor tag x) s = .next (t.answered ⟨.supervisor, 0x20, tag, x⟩ .ok y) := by
  have hok : recipeLengthOk x = true := beq_iff_eq.mpr hlen
  change serveSupervisor _ (recipeLengthOk x) _ _ = _
  rw [hok]
  exact serveSupervisor_accepted rfl htakes hbody

theorem writeRecipeBody_badValue {x : List Byte} (h : (parseRecipe x).valuesOk = false) (s : State) :
    writeRecipeBody x s = .error .badValue := by
  simp only [writeRecipeBody, h, need_false]

theorem writeRecipeBody_of_values {x : List Byte} {r : RecipeId} {s : State} (h : (parseRecipe x).valuesOk = true)
    (hr : byteAt x 0 = r.val) (hsetup : s.mode ≠ .unconfigured) (hquench : s.mode ≠ .quenched) :
    writeRecipeBody x s = need ((s.recipes.get r).refs == 0) .inUse
      (need (decide ((parseRecipe x).recipe.peak ≤ s.ceilingTenths)) .badValue
        (.ok (s.setRecipe r (some (parseRecipe x).recipe), be2 (parseRecipe x).recipe.peak))) := by
  have hnumber : (Fin.ofNat 32 (parseRecipe x).number : RecipeId) = r := by
    rw [show (parseRecipe x).number = r.val from hr, Fin.ofNat_val_eq_self]
  simp only [writeRecipeBody, h, need_true, needMode_of_ne hsetup hquench, hnumber]

theorem State.setRecipe_of_unreferenced {s : State} {r : RecipeId} (h : (s.recipes.get r).refs = 0) (x : Option Recipe) :
    s.setRecipe r x = { s with recipes := s.recipes.set r { recipe := x, refs := 0 } } := by
  rw [State.setRecipe, h]

theorem State.ceilingTenths_of_setup {s : State} {u : Setup} (h : s.cabinet.setup = some u) :
    s.ceilingTenths = u.ceiling * 10 := by
  rw [State.ceilingTenths, State.ceiling, h]
  rfl

theorem clearRecipeBody_be1 (r : RecipeId) {s : State} (hsetup : s.mode ≠ .unconfigured) :
    clearRecipeBody (be1 r.val) s = need ((s.recipes.get r).refs == 0) .inUse (.ok (s.setRecipe r none, [])) := by
  simp only [clearRecipeBody, byteAt_be1_val r (by decide), r.isLt, decide_true, need_true,
    needSetup_of_ne_unconfigured hsetup, Fin.ofNat_val_eq_self]

/-- Settles O26: what is in range, and the two checks on the references and the ceiling. -/
theorem recipesAreWrittenWhileUnreferenced : Obligations.RecipesAreWrittenWhileUnreferenced := by
  intro r tag x s
  dsimp only
  refine ⟨fun htakes hlen => ?_, fun htakes hlen hv hr hsetup hquench => ⟨fun hrefs => ?_, fun hrefs u hu => ?_⟩,
    fun htakes hsetup => ⟨fun hrefs => ?_, fun hrefs => ?_⟩⟩
  · have hrange := parseRecipe_valuesOk_iff x
    simp only [segmentAt, segmentOk_iff] at hrange
    refine ⟨hrange.symm, fun hout => ?_⟩
    rw [← hrange, Bool.not_eq_true] at hout
    exact exec_writeRecipe_refused htakes hlen (writeRecipeBody_badValue hout s)
  · have hbody := writeRecipeBody_of_values hv hr hsetup hquench
    rw [show ((s.recipes.get r).refs == 0) = false from beq_eq_false_iff_ne.mpr (by omega), need_false] at hbody
    exact exec_writeRecipe_refused htakes hlen hbody
  · have hbody := writeRecipeBody_of_values hv hr hsetup hquench
    rw [show ((s.recipes.get r).refs == 0) = true from beq_iff_eq.mpr hrefs, need_true,
      State.ceilingTenths_of_setup hu, State.setRecipe_of_unreferenced hrefs] at hbody
    refine ⟨fun hover => ?_, fun hfits => ?_⟩
    · have hpeak : ¬ (parseRecipe x).recipe.peak ≤ u.ceiling * 10 := Nat.not_le.mpr hover
      rw [decide_eq_false hpeak, need_false] at hbody
      exact exec_writeRecipe_refused htakes hlen hbody
    · have hpeak : (parseRecipe x).recipe.peak ≤ u.ceiling * 10 := hfits
      rw [decide_eq_true hpeak, need_true] at hbody
      exact exec_writeRecipe_accepted htakes hlen hbody
  · have hbody := clearRecipeBody_be1 r hsetup
    rw [show ((s.recipes.get r).refs == 0) = false from beq_eq_false_iff_ne.mpr (by omega), need_false] at hbody
    exact serveSupervisor_refused rfl htakes hbody
  · have hbody := clearRecipeBody_be1 r hsetup
    rw [show ((s.recipes.get r).refs == 0) = true from beq_iff_eq.mpr hrefs, need_true,
      State.setRecipe_of_unreferenced hrefs] at hbody
    exact serveSupervisor_accepted rfl htakes hbody

/-! ### Bindings (R36 to R38) -/

theorem bindingValuesOk_of_bytes {x : List Byte} {n : BindingId} (hn : byteAt x 0 = n.val)
    (h : ∀ i < 8, byteAt x (7 + i) < 32 ∨ byteAt x (7 + i) = 0xFF) : bindingValuesOk x = true := by
  simp only [bindingValuesOk, hn, n.isLt, decide_true, Bool.true_and, List.all_eq_true, List.mem_range]
  intro i hi
  simp only [mapEntryOk, absent, Bool.or_eq_true, decide_eq_true_eq, beq_iff_eq]
  exact h i hi

theorem State.codeTaken_iff {s : State} {n : BindingId} {code : TypeCode} :
    s.codeTaken n code = true ↔ ∃ m b, m ≠ n ∧ s.bindings.get m = some b ∧ b.code = code := by
  simp [State.codeTaken, Option.any_eq_true]

theorem writeBindingBody_of_values {x : List Byte} {n : BindingId} {s : State} (hn : byteAt x 0 = n.val)
    (h : ∀ i < 8, byteAt x (7 + i) < 32 ∨ byteAt x (7 + i) = 0xFF) (hsetup : s.mode ≠ .unconfigured)
    (hquench : s.mode ≠ .quenched) :
    writeBindingBody x s =
      need (!s.codeTaken n (codeAt x 1)) .duplicateType (.ok (s.setBinding n (some (parseBinding x)), [])) := by
  simp only [writeBindingBody, bindingValuesOk_of_bytes hn h, need_true, needMode_of_ne hsetup hquench, hn,
    Fin.ofNat_val_eq_self]
  rfl

theorem clearBindingBody_be1 (n : BindingId) {s : State} (hsetup : s.mode ≠ .unconfigured) :
    clearBindingBody (be1 n.val) s = .ok (s.setBinding n none, []) := by
  simp only [clearBindingBody, byteAt_be1_val n (by decide), n.isLt, decide_true, need_true,
    needSetup_of_ne_unconfigured hsetup, Fin.ofNat_val_eq_self]

theorem byteAt_orAbsent (v : Option BindingId) : defaultOk (byteAt (orAbsent Fin.val v) 0) = true ∧
    defaultOf (byteAt (orAbsent Fin.val v) 0) = v := by
  cases v with
  | none => exact ⟨rfl, rfl⟩
  | some n =>
    have hbyte : byteAt (orAbsent Fin.val (some n)) 0 = n.val := byteAt_be1_val n (by decide)
    have hne : n.val ≠ absent := by have := n.isLt; simp only [absent]; omega
    simp [hbyte, defaultOk, defaultOf, hne]

theorem beNat_be8 {v : Nat} (h : v < 2 ^ 64) : beNat (be8 v) = v := by
  simp only [beNat, be8, be4, be3, be2, List.cons_append, List.nil_append, List.foldl_cons, List.foldl_nil,
    BitVec.toNat_ofNat]
  omega

theorem familyOf_be8 (flags : BitVec 64) (rest : List Byte) : familyOf (be8 flags.toNat ++ rest) = flags := by
  have htake : (be8 flags.toNat ++ rest).take 8 = be8 flags.toNat := List.take_left' rfl
  rw [familyOf, htake, beNat_be8 flags.isLt, BitVec.ofNat_toNat, BitVec.setWidth_eq]

theorem setFamilyBody_codes (flags : BitVec 64) (da db : Option BindingId) {s : State} (hsetup : s.mode ≠ .unconfigured)
    (hquench : s.mode ≠ .quenched) :
    setFamilyBody (be8 flags.toNat ++ orAbsent Fin.val da ++ orAbsent Fin.val db) s =
      .ok ({ s with family := flags, defaults := { a := da, b := db } }, []) := by
  rw [List.append_assoc]
  have ha : byteAt (be8 flags.toNat ++ (orAbsent Fin.val da ++ orAbsent Fin.val db)) 8 =
      byteAt (orAbsent Fin.val da) 0 := rfl
  have hb : byteAt (be8 flags.toNat ++ (orAbsent Fin.val da ++ orAbsent Fin.val db)) 9 =
      byteAt (orAbsent Fin.val db) 0 := rfl
  obtain ⟨hokA, hofA⟩ := byteAt_orAbsent da
  obtain ⟨hokB, hofB⟩ := byteAt_orAbsent db
  simp only [setFamilyBody, ha, hb, hokA, hokB, hofA, hofB, Bool.and_self, need_true, needMode_of_ne hsetup hquench,
    familyOf_be8]

/-- Settles O27: with the values in range, the one check is that no other binding holds the code. -/
theorem bindingTableIsWritten : Obligations.BindingTableIsWritten := by
  intro n tag x s hsetup
  dsimp only
  refine ⟨fun htakes hlen hn hmap hquench => ?_, fun htakes => ?_, fun flags da db htakes hquench => ?_⟩
  · have hbody := writeBindingBody_of_values hn hmap hsetup hquench
    have hlength : (x.length == 15) = true := beq_iff_eq.mpr hlen
    have hexec : exec (.writeBinding .supervisor tag x) s =
        serveSupervisor ⟨.supervisor, 0x23, tag, x⟩ true (writeBindingBody x) s := by rw [← hlength]; rfl
    rw [hexec, ← State.codeTaken_iff]
    refine ⟨fun htaken => ?_, fun hfree => ?_⟩
    · rw [htaken] at hbody
      exact serveSupervisor_refused rfl htakes hbody
    · rw [Bool.not_eq_true] at hfree
      rw [hfree] at hbody
      exact serveSupervisor_accepted rfl htakes hbody
  · exact serveSupervisor_accepted rfl htakes (clearBindingBody_be1 n hsetup)
  · exact serveSupervisor_accepted rfl htakes (setFamilyBody_codes flags da db hsetup hquench)

/-! ### The settings of a head (R44, R45) -/

theorem headLaneOf_num (lane : Option Lane) : headLaneOf (headLaneNum lane) = some lane := by
  cases lane with
  | none => rfl
  | some l => cases l <;> rfl

theorem headClassOf_num (cls : HeadClass) : headClassOf (bit (cls == .high)) = some cls := by cases cls <;> rfl

theorem parseHead_codes (h : HeadId) (lane : Option Lane) (cls : HeadClass) (stay : Bool) {n : Nat} (hn : n ≤ 15) :
    parseHead (be1 h.val ++ be1 (headLaneNum lane) ++ be1 (bit (cls == .high)) ++ be1 (bit stay) ++ be1 n) =
      some (h, ⟨lane, cls, stay, n⟩) := by
  generalize hx : be1 h.val ++ be1 (headLaneNum lane) ++ be1 (bit (cls == .high)) ++ be1 (bit stay) ++ be1 n = x
  have hhead : byteAt x 0 = h.val := by rw [← hx]; exact byteAt_be1_val h (by decide)
  have hlane : byteAt x 1 = headLaneNum lane := by
    rw [← hx]
    cases lane with
    | none => rfl
    | some l => cases l <;> rfl
  have hcls : byteAt x 2 = bit (cls == .high) := by rw [← hx]; cases cls <;> rfl
  have hstay : byteAt x 3 = bit stay := by rw [← hx]; cases stay <;> rfl
  have hanticipation : byteAt x 4 = n := by rw [← hx]; exact toNat_ofNat_byte (by omega)
  have hrange : h.val < 16 ∧ n ≤ 15 := ⟨h.isLt, hn⟩
  simp only [parseHead, hhead, hlane, hcls, hstay, hanticipation, headLaneOf_num, headClassOf_num, switchOf_bit,
    hrange, and_self, if_true, Fin.ofNat_val_eq_self]

theorem State.headInUse_iff {s : State} {l : Lane} {h : HeadId} :
    s.headInUse l h = true ↔ ∃ k o, s.order l k = some o ∧ ∃ j ∈ o.joints, j.head = h := by
  simp [State.headInUse, Order.names, Option.any_eq_true, allSlots]

theorem State.laneChangeOk_iff {s : State} {h : HeadId} {lane : Option Lane} :
    s.laneChangeOk h lane = true ↔ (s.head h).lane = lane ∨
      ¬ ∃ l k o, (s.head h).lane = some l ∧ s.order l k = some o ∧ ∃ j ∈ o.joints, j.head = h := by
  unfold State.laneChangeOk
  split
  · rename_i hlane
    simp [hlane]
  · rename_i l hlane
    have huse : (∃ l' k o, (s.head h).lane = some l' ∧ s.order l' k = some o ∧ ∃ j ∈ o.joints, j.head = h) ↔
        s.headInUse l h = true := by
      rw [State.headInUse_iff, hlane]
      constructor
      · rintro ⟨l', k, o, hl, ho⟩
        cases hl
        exact ⟨k, o, ho⟩
      · rintro ⟨k, o, ho⟩
        exact ⟨l, k, o, rfl, ho⟩
    rw [huse, hlane, Bool.or_eq_true, beq_iff_eq, Bool.not_eq_true', Bool.not_eq_true]
    exact or_congr_left eq_comm

/-- The state of an accepted WRITE_HEAD before the arbiter acts. -/
def State.headWritten (s : State) (h : HeadId) (x : HeadSettings) : State :=
  if ((s.head h).lane != x.lane) || ((s.head h).stay && !x.stay) then
    (s.setHead h ((s.head h).write x)).liftStays (· == h)
  else s.setHead h ((s.head h).write x)

theorem State.writeHead_eq (s : State) (h : HeadId) (x : HeadSettings) :
    s.writeHead h x = (s.headWritten h x).arbitrate := rfl

theorem HeadRec.write_eq (r : HeadRec) (x : HeadSettings) : r.write x =
    { r with
      lane := x.lane, cls := x.cls, stay := x.stay, anticipation := x.anticipation
      cueLatch := if r.lane = x.lane then r.cueLatch else false
      coolUntil := if r.lane = x.lane then r.coolUntil else none } := by
  unfold HeadRec.write
  by_cases h : r.lane = x.lane <;> simp [h]

theorem State.head_headWritten (s : State) (h i : HeadId) (x : HeadSettings) :
    (s.headWritten h x).head i = if i = h then (s.head h).write x else s.head i := by
  unfold State.headWritten
  split <;> exact State.head_setHead ..

/-- A head's stay reservation is lifted where its lane changes or its stay is turned off. -/
theorem State.stay_headWritten (s : State) (h : HeadId) (x : HeadSettings) (c : ChannelId) :
    (s.headWritten h x).stay c =
      if (s.head h).lane ≠ x.lane ∨ ((s.head h).stay = true ∧ x.stay = false) then (s.stay c).filter (· != h)
      else s.stay c := by
  have hcond : (((s.head h).lane != x.lane) || ((s.head h).stay && !x.stay)) = true ↔
      (s.head h).lane ≠ x.lane ∨ ((s.head h).stay = true ∧ x.stay = false) := by simp
  unfold State.headWritten
  by_cases hlift : (s.head h).lane ≠ x.lane ∨ ((s.head h).stay = true ∧ x.stay = false)
  · rw [if_pos (hcond.mpr hlift), if_pos hlift, State.stay_liftStays]
    rfl
  · rw [if_neg (fun e => hlift (hcond.mp e)), if_neg hlift]
    rfl

theorem State.arbiter_headWritten (s : State) (h : HeadId) (x : HeadSettings) :
    (s.headWritten h x).arbiter = { s.arbiter with stays := (s.headWritten h x).arbiter.stays } := by
  unfold State.headWritten
  split <;> rfl

theorem State.headWritten_keeps {α : Sort*} (f : State → α) (hhead : ∀ (t : State) i y, f (t.setHead i y) = f t)
    (harbiter : ∀ (t : State) a, f (t.setArbiter a) = f t) (s : State) (h : HeadId) (x : HeadSettings) :
    f (s.headWritten h x) = f s := by
  unfold State.headWritten
  split
  · exact (harbiter _ _).trans (hhead _ _ _)
  · exact hhead _ _ _

/-- Settles O28: check 5 of R44 and what the settings replace. -/
theorem headSettingsAreWritten : Obligations.HeadSettingsAreWritten := by
  intro h lane cls stay n tag s hn
  dsimp only
  intro htakes hsetup hquench
  have hbody : ∀ x, parseHead x = some (h, ⟨lane, cls, stay, n⟩) → writeHeadBody x s =
      need (s.laneChangeOk h lane) .headInUse (.ok (s.writeHead h ⟨lane, cls, stay, n⟩, [])) := fun x hx => by
    simp only [writeHeadBody, hx, needMode_of_ne hsetup hquench]
  have hbody := hbody _ (parseHead_codes h lane cls stay hn)
  refine ⟨fun hne huse => ?_, fun hok => ⟨s.headWritten h ⟨lane, cls, stay, n⟩, ?_, fun i => ?_,
    s.stay_headWritten h ⟨lane, cls, stay, n⟩, s.arbiter_headWritten h _, ?_, ?_, ?_, ?_, ?_, ?_, ?_, ?_⟩⟩
  · have hfalse : s.laneChangeOk h lane = false := by
      rw [Bool.eq_false_iff, Ne, State.laneChangeOk_iff]
      exact fun hor => hor.elim hne (fun hunused => hunused huse)
    rw [hfalse, need_false] at hbody
    exact serveSupervisor_refused rfl htakes hbody
  · rw [State.laneChangeOk_iff.mpr hok, need_true, State.writeHead_eq] at hbody
    exact serveSupervisor_accepted rfl htakes hbody
  · rw [State.head_headWritten, HeadRec.write_eq]
  all_goals exact State.headWritten_keeps _ (fun _ _ _ => rfl) (fun _ _ => rfl) _ _ _

/-! ### Masks (R46) -/

/-- Settles O29: the set takes the mask, and masking lifts its stay reservations. -/
theorem headsAreMaskedAndUnmasked : Obligations.HeadsAreMaskedAndUnmasked := by
  intro x tag s hlen hsetup
  have hlength : (x.length == 2) = true := beq_iff_eq.mpr hlen
  have hmask : exec (.maskHeads .supervisor tag x) s =
      serveSupervisor ⟨.supervisor, 0x31, tag, x⟩ true (maskHeadsBody x) s := by rw [← hlength]; rfl
  have hunmask : exec (.unmaskHeads .supervisor tag x) s =
      serveSupervisor ⟨.supervisor, 0x32, tag, x⟩ true (unmaskHeadsBody x) s := by rw [← hlength]; rfl
  rw [hmask, hunmask]
  refine ⟨fun htakes => ⟨(s.setMasks (inHeadSet x) true).liftStays (inHeadSet x), ?_, fun h => ?_, fun c => ?_,
      rfl, rfl, rfl, rfl, rfl, rfl, rfl, rfl, rfl⟩,
    fun htakes => ⟨fun hmode => ?_, fun hmode => ⟨s.setMasks (inHeadSet x) false, ?_, fun h => ?_,
      rfl, rfl, rfl, rfl, rfl, rfl, rfl, rfl, rfl⟩⟩⟩
  · exact serveSupervisor_accepted rfl htakes (needSetup_of_ne_unconfigured hsetup _)
  · change (s.setMasks (inHeadSet x) true).head h = _
    rw [State.setMasks, State.head_mapHeads]
    by_cases hset : inHeadSet x h = true
    · rw [if_pos hset, show (pairAt x 0).testBit h.val = true from hset, Bool.true_or]
    · rw [if_neg hset, show (pairAt x 0).testBit h.val = false from Bool.eq_false_iff.mpr hset, Bool.false_or]
  · exact State.stay_liftStays _ _ _
  · exact serveSupervisor_refused rfl htakes (needMode_of_quenched hmode _)
  · exact serveSupervisor_accepted rfl htakes (needMode_of_ne hsetup hmode _)
  · rw [State.setMasks, State.head_mapHeads]
    by_cases hset : inHeadSet x h = true
    · rw [if_pos hset, show (pairAt x 0).testBit h.val = true from hset, Bool.not_true, Bool.false_and]
    · rw [if_neg hset, show (pairAt x 0).testBit h.val = false from Bool.eq_false_iff.mpr hset, Bool.not_false,
        Bool.true_and]

/-! ### The budget and the restoring of a channel (R71, R82) -/

theorem State.budgetOk_iff {s : State} {n : Nat} : s.budgetOk n = true ↔
    ¬ (n < 10 ∨ 180 < n ∨ ∃ x, s.cabinet.setup = some x ∧ x.ceiling < n) := by
  unfold State.budgetOk State.ceiling
  cases s.cabinet.setup with
  | none => simp
  | some x => simp; omega

theorem setBudgetBody_be1 {n : Nat} (hn : n < 256) (s : State) :
    setBudgetBody (be1 n) s =
      need (s.budgetOk n) .badValue (needMode s
        (.ok ((s.setArbiter { s.arbiter with budget := n }).arbitrate, []))) := by
  simp only [setBudgetBody, byteAt_be1 hn, State.modArbiter_eq]

theorem restoreChannelBody_be1 (c : ChannelId) {s : State} (hsetup : s.mode ≠ .unconfigured)
    (hquench : s.mode ≠ .quenched) :
    restoreChannelBody (be1 c.val) s = .ok ((s.setChan c (s.chan c).restore).arbitrate, []) := by
  simp only [restoreChannelBody, byteAt_be1_val c (by decide), c.isLt, decide_true, need_true,
    needMode_of_ne hsetup hquench, Fin.ofNat_val_eq_self, State.modChan_eq]

/-- Settles O37: the checks of a budget, and the one state a restoring acts on. -/
theorem budgetIsSetAndChannelsAreRestored : Obligations.BudgetIsSetAndChannelsAreRestored := by
  refine ⟨fun n tag s hn htakes => ?_, fun c tag s htakes hsetup hquench => ⟨fun hstate => ?_, fun hstate => ?_⟩⟩
  · dsimp only
    have hbody := setBudgetBody_be1 hn s
    refine ⟨fun hout => ?_, fun hin hmode => ?_, fun hin hmode => ?_, fun hin hsetup hquench => ?_⟩
    · rw [show s.budgetOk n = false by rw [Bool.eq_false_iff, Ne, State.budgetOk_iff, not_not]; exact hout,
        need_false] at hbody
      exact serveSupervisor_refused rfl htakes hbody
    · rw [State.budgetOk_iff.mpr hin, need_true, needMode_of_unconfigured hmode] at hbody
      exact serveSupervisor_refused rfl htakes hbody
    · rw [State.budgetOk_iff.mpr hin, need_true, needMode_of_quenched hmode] at hbody
      exact serveSupervisor_refused rfl htakes hbody
    · rw [State.budgetOk_iff.mpr hin, need_true, needMode_of_ne hsetup hquench] at hbody
      exact serveSupervisor_accepted rfl htakes hbody
  · have hbody := restoreChannelBody_be1 c hsetup hquench
    rw [ChannelRec.restore, if_pos hstate] at hbody
    exact serveSupervisor_accepted rfl htakes hbody
  · have hbody := restoreChannelBody_be1 c hsetup hquench
    rw [ChannelRec.restore, if_neg hstate, State.setChan_self] at hbody
    exact serveSupervisor_accepted rfl htakes hbody

end Sys2Proof.Machine
end

section
/-! PROOF. The arbiter's part of an event: the naming of a candidate, the choice of a channel, the grant in closed form,
and what a whole arbitration can change (R62 to R68, R75). -/

namespace Sys2Proof.Machine

/-! ### The first in a search -/

theorem le_of_find?_finRange {n : Nat} {p : Fin n → Bool} {i : Fin n} (h : (List.finRange n).find? p = some i)
    {j : Fin n} (hj : p j = true) : i ≤ j := by
  obtain ⟨-, before, after, hsplit, hbefore⟩ := List.find?_eq_some_iff_append.mp h
  have hmem : j ∈ before ++ i :: after := hsplit ▸ List.mem_finRange j
  have hsorted : (before ++ i :: after).Pairwise (· < ·) := hsplit ▸ List.pairwise_lt_finRange n
  rcases List.mem_append.mp hmem with hin | hin
  · have := hbefore j hin
    simp [hj] at this
  · rcases List.mem_cons.mp hin with rfl | hafter
    · exact Nat.le_refl _
    · exact Nat.le_of_lt ((List.pairwise_cons.mp (List.pairwise_append.mp hsorted).2.1).1 j hafter)

/-- The search after a pointer finds the head that is the least way after it. -/
theorem firstAfter_eq_some {ptr h : HeadId} {p : HeadId → Bool} (hfirst : firstAfter ptr p = some h) :
    p h = true ∧ ∀ h', p h' = true → h - ptr - 1 ≤ h' - ptr - 1 := by
  rw [firstAfter, searchOrder, List.find?_map, Option.map_eq_some_iff] at hfirst
  obtain ⟨i, hi, rfl⟩ := hfirst
  have hfound := List.find?_some hi
  refine ⟨hfound, fun h' hp => ?_⟩
  have hback : ∀ x : HeadId, ptr + 1 + (x - ptr - 1) = x := fun x => by abel
  have hle := le_of_find?_finRange hi (j := h' - ptr - 1) (by simpa only [Function.comp_apply, hback] using hp)
  rwa [show ptr + 1 + i - ptr - 1 = i by abel]

theorem firstAfter_eq_none {ptr : HeadId} {p : HeadId → Bool} (h : firstAfter ptr p = none) (h' : HeadId) :
    p h' = false := by
  rw [firstAfter, searchOrder, List.find?_map, Option.map_eq_none_iff, List.find?_eq_none] at h
  have hback : ptr + 1 + (h' - ptr - 1) = h' := by abel
  have := h (h' - ptr - 1) (List.mem_finRange _)
  rw [Function.comp_apply, hback] at this
  exact Bool.eq_false_iff.mpr this

/-! ### The naming (R63, R64) -/

theorem State.grantable_iff {s : State} {c : ChannelId} {h : HeadId} :
    s.grantable c h = true ↔ (s.chan c).state = .idle ∧ (s.stay c = none ∨ s.stay c = some h) := by
  rw [State.grantable, Bool.and_eq_true, beq_iff_eq]
  refine and_congr_right fun _ => ?_
  cases s.stay c <;> simp

theorem State.served_iff {s : State} {h : HeadId} : s.served h = true ↔
    s.requesting h = true ∧ ∃ c, (s.chan c).state = .idle ∧ (s.stay c = none ∨ s.stay c = some h) := by
  simp only [State.served, Bool.and_eq_true, List.any_eq_true, State.grantable_iff]
  exact and_congr_right fun _ => ⟨fun ⟨c, _, hc⟩ => ⟨c, hc⟩, fun ⟨c, hc⟩ => ⟨c, List.mem_finRange c, hc⟩⟩

theorem State.nextOf_eq_some {s : State} {cls : HeadClass} {ptr h : HeadId} (hnext : s.nextOf cls ptr = some h) :
    (s.served h = true ∧ (s.head h).cls = cls) ∧
      ∀ h', s.served h' = true → (s.head h').cls = cls → h - ptr - 1 ≤ h' - ptr - 1 := by
  obtain ⟨hp, hle⟩ := firstAfter_eq_some hnext
  rw [Bool.and_eq_true, beq_iff_eq] at hp
  exact ⟨hp, fun h' hserved hcls => hle h' (by rw [hserved, hcls]; simp)⟩

theorem State.nextOf_eq_none {s : State} {cls : HeadClass} {ptr : HeadId} (hnext : s.nextOf cls ptr = none)
    (h : HeadId) (hserved : s.served h = true) : (s.head h).cls ≠ cls := by
  have := firstAfter_eq_none hnext h
  rw [hserved, Bool.true_and, beq_eq_false_iff_ne] at this
  exact this

theorem State.naming_lowTurn {s : State} {h : HeadId} (hturn : s.arbiter.lowTurn = true)
    (hlow : s.nextOf .low s.arbiter.lowPtr = some h) :
    s.naming = some { s.arbiter with candidate := some h, lowPtr := h, lowTurn := false } := by
  simp only [State.naming, hturn, if_true, hlow]

theorem State.naming_high {s : State} {h : HeadId}
    (hturn : s.arbiter.lowTurn = false ∨ s.nextOf .low s.arbiter.lowPtr = none)
    (hhigh : s.nextOf .high s.arbiter.highPtr = some h) :
    s.naming = some { s.arbiter with
      candidate := some h, highPtr := h, lowTurn := s.arbiter.lowTurn || decide (h ≤ s.arbiter.highPtr) } := by
  have hfirst : (if s.arbiter.lowTurn then s.nextOf .low s.arbiter.lowPtr else none) = none := by
    rcases hturn with hoff | hnone
    · simp [hoff]
    · simp [hnone]
  simp only [State.naming, hfirst, hhigh]

theorem State.naming_low {s : State} {h : HeadId} (hturn : s.arbiter.lowTurn = false)
    (hhigh : s.nextOf .high s.arbiter.highPtr = none) (hlow : s.nextOf .low s.arbiter.lowPtr = some h) :
    s.naming = some { s.arbiter with candidate := some h, lowPtr := h } := by
  simp only [State.naming, hturn, hhigh, hlow, Bool.false_eq_true, if_false]

theorem State.naming_none {s : State} (hhigh : s.nextOf .high s.arbiter.highPtr = none)
    (hlow : s.nextOf .low s.arbiter.lowPtr = none) : s.naming = none := by
  simp only [State.naming, hhigh, hlow, ite_self]

theorem exec_candidateNaming_named {s : State} {a : Arbiter} (hc : s.arbiter.candidate = none)
    (hn : s.naming = some a) : exec .candidateNaming s = .next (s.setArbiter a).arbitrate := by
  have hname : s.nameCandidate = s.setArbiter a := by simp only [State.nameCandidate, hc, hn]
  change execCandidateNaming s = _
  simp only [execCandidateNaming, hc, hn, Option.isNone_none, Option.isSome_some, Bool.and_self, if_true, hname]

theorem exec_candidateNaming_of_candidate {s : State} (hc : s.arbiter.candidate ≠ none) :
    exec .candidateNaming s = .next s := by
  have hsome : s.arbiter.candidate.isNone = false := Option.isNone_eq_false_iff.mpr (Option.isSome_iff_ne_none.mpr hc)
  change execCandidateNaming s = _
  simp only [execCandidateNaming, hsome, Bool.false_and, Bool.false_eq_true, if_false]

theorem exec_candidateNaming_none {s : State} (hn : s.naming = none) : exec .candidateNaming s = .next s := by
  change execCandidateNaming s = _
  simp only [execCandidateNaming, hn, Option.isSome_none, Bool.and_false, Bool.false_eq_true, if_false]

/-- Settles O38: the three searches of a naming, in their order. -/
theorem candidateIsNamedByRoundRobin : Obligations.CandidateIsNamedByRoundRobin := by
  intro s
  refine ⟨fun cls ptr h hnext => ?_, fun cls ptr hnext => State.nextOf_eq_none hnext,
    exec_candidateNaming_of_candidate, fun hc => ?_⟩
  · obtain ⟨⟨hserved, hcls⟩, hle⟩ := State.nextOf_eq_some hnext
    obtain ⟨hreq, hchan⟩ := State.served_iff.mp hserved
    exact ⟨hreq, hcls, hchan, hle⟩
  · dsimp only
    exact ⟨fun h hturn hlow => exec_candidateNaming_named hc (State.naming_lowTurn hturn hlow),
      fun h hturn hhigh => exec_candidateNaming_named hc (State.naming_high hturn hhigh),
      fun h hturn hhigh hlow => exec_candidateNaming_named hc (State.naming_low hturn hhigh hlow),
      fun hhigh hlow => exec_candidateNaming_none (State.naming_none hhigh hlow)⟩

/-! ### The choice of a channel (R67) -/

theorem State.find?_grantable {s : State} {h : HeadId} {p : ChannelId → Bool} :
    (allChannels.filter fun c => s.grantable c h).find? p =
      allChannels.find? fun c => s.grantable c h && p c := by
  simp [List.find?_filter]

/-- Parked on the head goes before unparked, unparked before parked elsewhere, and the lower channel first. -/
theorem State.chooseChannel_best {s : State} {h : HeadId} {c : ChannelId} (hc : s.chooseChannel h = some c)
    {d : ChannelId} (hd : s.grantable d h = true) :
    ((s.chan d).parked = some h → (s.chan c).parked = some h) ∧
      ((s.chan c).parked ≠ some h → (s.chan d).parked = none → (s.chan c).parked = none ∧ c ≤ d) ∧
      ((s.chan c).parked ≠ some h → (s.chan c).parked ≠ none → c ≤ d) := by
  unfold State.chooseChannel at hc
  dsimp only at hc
  rw [State.find?_grantable, State.find?_grantable, List.head?_filter] at hc
  split at hc
  · rename_i e he
    cases hc
    have hparked : (s.chan c).parked = some h := by
      have := List.find?_some he
      simp only [Bool.and_eq_true, beq_iff_eq] at this
      exact this.2
    exact ⟨fun _ => hparked, fun hne => absurd hparked hne, fun hne => absurd hparked hne⟩
  · rename_i he
    have hnone : ∀ e, s.grantable e h = true → (s.chan e).parked ≠ some h := fun e hg hp => by
      have := List.find?_eq_none.mp he e (List.mem_finRange e)
      simp [hg, hp] at this
    split at hc
    · rename_i e hfree
      cases hc
      have hunparked : (s.chan c).parked = none := by
        have := List.find?_some hfree
        simp only [Bool.and_eq_true, Option.isNone_iff_eq_none] at this
        exact this.2
      refine ⟨fun hp => absurd hp (hnone d hd), fun _ hp => ⟨hunparked, ?_⟩, fun _ hne => absurd hunparked hne⟩
      exact le_of_find?_finRange hfree (by rw [hd, hp]; rfl)
    · rename_i hfree
      refine ⟨fun hp => absurd hp (hnone d hd), fun _ hp => ?_, fun _ _ => le_of_find?_finRange hc hd⟩
      have := List.find?_eq_none.mp hfree d (List.mem_finRange d)
      simp [hd, hp] at this

theorem State.chooseChannel_isSome {s : State} {h : HeadId} {d : ChannelId} (hd : s.grantable d h = true) :
    ∃ c, s.chooseChannel h = some c := by
  unfold State.chooseChannel
  dsimp only
  split
  · exact ⟨_, rfl⟩
  · split
    · exact ⟨_, rfl⟩
    · cases hfirst : (allChannels.filter fun c => s.grantable c h).head? with
      | some c => exact ⟨c, rfl⟩
      | none =>
        have hmem : d ∈ allChannels.filter fun c => s.grantable c h := List.mem_filter.mpr ⟨List.mem_finRange d, hd⟩
        rw [List.head?_eq_none_iff.mp hfirst] at hmem
        cases hmem

/-! ### Fronts -/

theorem Order.front_eq_some {o : Order} {h : HeadId} {i : Nat} {j : Joint} :
    o.front h = some (i, j) ↔ o.frontIndex h = some i ∧ o.joints[i]? = some j := by
  unfold Order.front
  cases hi : o.frontIndex h with
  | none => simp
  | some n =>
    dsimp only
    cases hj : o.joints[n]? with
    | none =>
      simp only [reduceCtorEq, Option.some.injEq, false_iff, not_and]
      rintro rfl
      rw [hj]
      exact Option.some_ne_none j ∘ Eq.symm
    | some x =>
      simp only [Option.some.injEq, Prod.mk.injEq]
      constructor
      · rintro ⟨rfl, rfl⟩
        exact ⟨rfl, hj⟩
      · rintro ⟨rfl, hx⟩
        exact ⟨rfl, Option.some.inj (hj.symm.trans hx)⟩

theorem State.frontOf_eq_some {s : State} {h : HeadId} {l : Lane} {k : SlotId} {o : Order} {i : Nat} {j : Joint} :
    s.frontOf h = some (l, k, o, i, j) ↔
      (s.head h).lane = some l ∧ s.active l = some (k, o) ∧ o.front h = some (i, j) := by
  unfold State.frontOf
  cases hlane : (s.head h).lane with
  | none => simp
  | some m =>
    dsimp only
    cases hactive : s.active m with
    | none =>
      simp only [reduceCtorEq, Option.some.injEq, false_iff, not_and]
      rintro rfl
      simp [hactive]
    | some x =>
      obtain ⟨n, p⟩ := x
      dsimp only
      cases hfront : p.front h with
      | none =>
        simp only [reduceCtorEq, Option.some.injEq, false_iff, not_and]
        rintro rfl
        rw [hactive]
        rintro hx
        cases hx
        simp [hfront]
      | some y =>
        obtain ⟨a, b⟩ := y
        simp only [Option.some.injEq, Prod.mk.injEq]
        constructor
        · rintro ⟨rfl, rfl, rfl, rfl, rfl⟩
          exact ⟨rfl, hactive, hfront⟩
        · rintro ⟨rfl, hx, hy⟩
          rw [hactive] at hx
          cases hx
          rw [hfront] at hy
          cases hy
          exact ⟨rfl, rfl, rfl, rfl, rfl⟩

/-! ### The entry to HEATING (R89, R90) -/

/-- The working state of a channel whose first segment has started. -/
def State.firstHeat (s : State) (a : Attempt) : Heating :=
  match (s.recipe a.recipe).segments[0]? with
  | some g => { Heating.fresh s.now with segment := 1, segTimer := g.maxTime, segStart := s.now }
  | none => Heating.fresh s.now

theorem State.firstHeat_of_segment {s : State} {a : Attempt} {g : Segment}
    (h : (s.recipe a.recipe).segments[0]? = some g) : s.firstHeat a = Heating.mk 1 g.maxTime s.now 0 0 s.now [] := by
  rw [State.firstHeat, h]
  rfl

theorem State.startSegment_eq {s : State} {c : ChannelId} {a : Attempt} {n : Nat} {g : Segment}
    (ha : (s.chan c).attempt = some a) (hg : (s.recipe a.recipe).segments[n - 1]? = some g) :
    s.startSegment c n = s.setChan c { s.chan c with
      heat := (s.chan c).heat.map fun (w : Heating) =>
        { w with segment := n, segTimer := g.maxTime, segStart := s.now } } := by
  unfold State.startSegment
  rw [ha]
  dsimp only
  rw [hg]
  rfl

theorem State.startSegment_none {s : State} {c : ChannelId} {a : Attempt} {n : Nat}
    (ha : (s.chan c).attempt = some a) (hg : (s.recipe a.recipe).segments[n - 1]? = none) :
    s.startSegment c n = s := by
  unfold State.startSegment
  rw [ha]
  dsimp only
  rw [hg]

/-- Where the channel's attempt is on `o`, the entry to HEATING writes the channel, the joint and the head. -/
theorem State.enterHeating_eq {s : State} {c : ChannelId} {a : Attempt} {o : Order} (ha : (s.chan c).attempt = some a)
    (ho : s.order a.lane a.slot = some o) :
    s.enterHeating c =
      ((s.setSlot a.lane a.slot (some (o.modJoint a.joint fun j => { j with state := .heating }))).setHead a.head
        (s.head a.head).goHeating).setChan c { s.chan c with
          state := .heating, moveTimer := none, heat := some (s.firstHeat a) } := by
  unfold State.enterHeating
  rw [ha]
  dsimp only
  have horder : (s.modChan c fun r => { r with
      state := .heating, moveTimer := none, heat := some (Heating.fresh s.now) }).order a.lane a.slot = some o := ho
  rw [State.modJoint_of_order horder, State.modHead_eq]
  have hattempt : ((((s.modChan c fun r => { r with
      state := .heating, moveTimer := none, heat := some (Heating.fresh s.now) }).setSlot a.lane a.slot
        (some (o.modJoint a.joint fun j => { j with state := .heating }))).setHead a.head
          (s.head a.head).goHeating).chan c).attempt = some a := by simp [ha]
  cases hg : (s.recipe a.recipe).segments[0]? with
  | some g =>
    have hstart := State.startSegment_eq (n := 1) (g := g) hattempt (by simpa using hg)
    simp only [State.reads_setSlot, State.reads_setChan, State.modChan_eq] at hstart ⊢
    rw [hstart]
    simp [State.setChan, State.setHead, State.setSlot, State.setOm, State.om, State.chan, Vector.set_set,
      State.firstHeat, hg]
    rfl
  | none =>
    have hstart := State.startSegment_none (n := 1) hattempt (by simpa using hg)
    simp only [State.reads_setSlot, State.reads_setChan, State.modChan_eq] at hstart ⊢
    rw [hstart]
    simp only [State.firstHeat, hg]
    rfl

end Sys2Proof.Machine
end

section
/-! PROOF. The grant in closed form (R66 to R68, R75). -/

namespace Sys2Proof.Machine

/-- The order of a granted joint: the attempt number rises, the joint is moved to, and a grant in PROOF marks the order
(R118). -/
def State.grantedOrder (s : State) (p : GrantPlan) (o : Order) : Order :=
  { o with
    joints := o.joints.modify p.index fun j => { j with attempts := j.attempts + 1, state := .transfer }
    proof := o.proof || s.mode == .proof }

/-- The state with the grant made and the channel in TRANSFER, before a channel that is parked on the head heats. -/
def State.granted (s : State) (p : GrantPlan) (o : Order) : State :=
  (((((s.setRing p.lane { s.ring p.lane with
      reserved := (s.ring p.lane).reserved + (s.recipe p.joint.recipe).recordSize }).setArbiter { s.arbiter with
      committed := s.arbiter.committed + (s.recipe p.joint.recipe).peak
      stays := s.arbiter.stays.set p.channel none }).setSlot p.lane p.slot (some (s.grantedOrder p o))).mapHeads
      (HeadRec.leave p.channel (s.chan p.channel).parked)).setChan p.channel { s.chan p.channel with
        state := .transfer, attempt := some (s.newAttempt p), moveTimer := some s.transferTime
        parked := some p.head }).setHead p.head
      { HeadRec.leave p.channel (s.chan p.channel).parked p.head (s.head p.head) with connected := some p.channel }

theorem State.grant_eq {s : State} {p : GrantPlan} {o : Order} (ho : s.order p.lane p.slot = some o) :
    s.grant p =
      ((if (s.chan p.channel).parked = some p.head then (s.granted p o).enterHeating p.channel
        else s.granted p o).modArbiter fun x => { x with candidate := none }).countGrant := by
  unfold State.grant
  dsimp only
  have horder : ((s.reserve p.lane (s.recipe p.joint.recipe).recordSize).modArbiter fun x =>
      { x with committed := x.committed + (s.newAttempt p).peak }).order p.lane p.slot = some o := ho
  rw [State.modJoint_of_order horder, State.modOrder_of_order (State.order_setSlot .. |>.trans (if_pos ⟨rfl, rfl⟩)),
    State.setSlot_setSlot, State.modChan_eq, State.park_eq]
  simp only [beq_iff_eq, State.chan_setChan, if_true, State.setStay, State.reads_setChan,
    State.reads_setSlot]
  have hgranted : ∀ t : State, t = s.granted p o →
      ((if (s.chan p.channel).parked = some p.head then t.enterHeating p.channel else t).modArbiter fun x =>
        { x with candidate := none }).countGrant =
      ((if (s.chan p.channel).parked = some p.head then (s.granted p o).enterHeating p.channel
        else s.granted p o).modArbiter fun x => { x with candidate := none }).countGrant := fun t ht => by rw [ht]
  refine hgranted _ ?_
  simp only [State.granted, State.setChan, State.mapHeads, Vector.set_set]
  rfl

section
variable {s : State} {p : GrantPlan} {o : Order}

theorem State.order_granted (m : Lane) (n : SlotId) : (s.granted p o).order m n =
    if m = p.lane ∧ n = p.slot then some (s.grantedOrder p o) else s.order m n := by
  simp only [State.granted, State.reads_setHead, State.reads_setChan, State.reads_mapHeads]
  exact State.order_setSlot ..

theorem State.chan_granted (d : ChannelId) : (s.granted p o).chan d =
    if d = p.channel then { s.chan p.channel with
      state := .transfer, attempt := some (s.newAttempt p), moveTimer := some s.transferTime, parked := some p.head }
    else s.chan d := by
  simp [State.granted]

theorem State.head_granted (x : HeadId) : (s.granted p o).head x =
    if x = p.head then { s.head p.head with connected := some p.channel }
    else HeadRec.leave p.channel (s.chan p.channel).parked x (s.head x) := by
  simp only [State.granted, State.head_setHead, State.reads_setChan, State.head_mapHeads]
  split
  · unfold HeadRec.leave
    split <;> rfl
  · rfl

theorem State.granted_enterHeating : (s.granted p o).enterHeating p.channel =
    (((s.granted p o).setSlot p.lane p.slot (some ((s.grantedOrder p o).modJoint p.index fun j =>
      { j with state := .heating }))).setHead p.head ({ s.head p.head with
        connected := some p.channel } : HeadRec).goHeating).setChan p.channel
      { (s.granted p o).chan p.channel with
        state := .heating, moveTimer := none, heat := some (s.firstHeat (s.newAttempt p)) } := by
  have ha : ((s.granted p o).chan p.channel).attempt = some (s.newAttempt p) := by simp [State.chan_granted]
  have ho : (s.granted p o).order p.lane p.slot = some (s.grantedOrder p o) := by simp [State.order_granted]
  rw [State.enterHeating_eq ha ho]
  have hhead : (s.granted p o).head p.head = { s.head p.head with connected := some p.channel } := by
    rw [State.head_granted, if_pos rfl]
  have hheat : (s.granted p o).firstHeat (s.newAttempt p) = s.firstHeat (s.newAttempt p) := rfl
  rw [show (s.newAttempt p).head = p.head from rfl, hhead, hheat]
  rfl
end

theorem HeadRec.goHeating_eq (r : HeadRec) : r.goHeating = { r with
    sensorTimer := if r.temp = none ∧ r.sensorTimer = none then some 20 else r.sensorTimer } := by
  unfold HeadRec.goHeating
  split <;> rfl

/-! ### What a grant leaves in each block -/

/-- A granted joint is heated where the channel was parked on the head, and moved to otherwise. -/
def State.grantedState (s : State) (p : GrantPlan) : JointState :=
  if (s.chan p.channel).parked = some p.head then .heating else .transfer

/-- The order once its joint is granted. -/
def State.orderAfterGrant (s : State) (p : GrantPlan) (o : Order) : Order :=
  { o with
    joints := o.joints.modify p.index fun j => { j with attempts := j.attempts + 1, state := s.grantedState p }
    proof := o.proof || s.mode == .proof }

section
variable {s : State} {p : GrantPlan} {o : Order} (ho : s.order p.lane p.slot = some o)
include ho

theorem State.order_grant (m : Lane) (n : SlotId) : (s.grant p).order m n =
    if m = p.lane ∧ n = p.slot then some (s.orderAfterGrant p o) else s.order m n := by
  rw [State.grant_eq ho]
  by_cases hpark : (s.chan p.channel).parked = some p.head
  · have horder : ((s.grantedOrder p o).modJoint p.index fun j => { j with state := .heating }) =
        s.orderAfterGrant p o := by
      simp only [Order.modJoint, State.grantedOrder, State.orderAfterGrant, List.modify_modify_eq, State.grantedState,
        hpark, if_true]
      rfl
    simp only [hpark, if_true, State.modArbiter_eq, State.reads_countGrant, State.reads_setArbiter,
      State.granted_enterHeating, State.reads_setChan, State.reads_setHead, State.order_setSlot, State.order_granted,
      horder]
    by_cases hmn : m = p.lane ∧ n = p.slot <;> simp [hmn]
  · have horder : s.grantedOrder p o = s.orderAfterGrant p o := by
      simp only [State.grantedOrder, State.orderAfterGrant, State.grantedState, hpark, if_false]
    simp only [hpark, if_false, State.modArbiter_eq, State.reads_countGrant, State.reads_setArbiter,
      State.order_granted, horder]

theorem State.chan_grant (d : ChannelId) : (s.grant p).chan d =
    if d = p.channel then
      if (s.chan p.channel).parked = some p.head then
        { s.chan p.channel with
          state := .heating, attempt := some (s.newAttempt p), moveTimer := none, parked := some p.head
          heat := some (s.firstHeat (s.newAttempt p)) }
      else
        { s.chan p.channel with
          state := .transfer, attempt := some (s.newAttempt p), moveTimer := some s.transferTime
          parked := some p.head }
    else s.chan d := by
  rw [State.grant_eq ho]
  by_cases hpark : (s.chan p.channel).parked = some p.head
  · simp only [hpark, if_true, State.modArbiter_eq, State.reads_countGrant, State.reads_setArbiter,
      State.granted_enterHeating, State.chan_setChan, State.reads_setHead, State.reads_setSlot, State.chan_granted]
    by_cases hd : d = p.channel <;> simp [hd]
  · simp only [hpark, if_false, State.modArbiter_eq, State.reads_countGrant, State.reads_setArbiter,
      State.chan_granted]

theorem State.head_grant (x : HeadId) : (s.grant p).head x =
    if x = p.head then { s.head p.head with
      connected := some p.channel
      sensorTimer := if (s.chan p.channel).parked = some p.head ∧ (s.head p.head).temp = none ∧
          (s.head p.head).sensorTimer = none then some 20 else (s.head p.head).sensorTimer }
    else HeadRec.leave p.channel (s.chan p.channel).parked x (s.head x) := by
  rw [State.grant_eq ho]
  by_cases hpark : (s.chan p.channel).parked = some p.head
  · simp only [hpark, if_true, true_and, State.modArbiter_eq, State.reads_countGrant, State.reads_setArbiter,
      State.granted_enterHeating, State.reads_setChan, State.head_setHead, State.reads_setSlot, State.head_granted,
      HeadRec.goHeating_eq]
    by_cases hx : x = p.head <;> simp [hx]
  · simp only [hpark, if_false, false_and, State.modArbiter_eq, State.reads_countGrant, State.reads_setArbiter,
      State.head_granted]

/-- What a grant does to the blocks that the entry to HEATING does not touch. -/
theorem State.grant_keeps {α : Sort*} (f : State → α) (hslot : ∀ (t : State) l k x, f (t.setSlot l k x) = f t)
    (hhead : ∀ (t : State) i y, f (t.setHead i y) = f t) (hchan : ∀ (t : State) c y, f (t.setChan c y) = f t) :
    f (s.grant p) = f (((s.granted p o).modArbiter fun x => { x with candidate := none }).countGrant) := by
  rw [State.grant_eq ho]
  split
  · rw [State.granted_enterHeating]
    exact (hchan ((((s.granted p o).setSlot _ _ _).setHead _ _).modArbiter fun x =>
      { x with candidate := none }).countGrant _ _).trans
        ((hhead (((s.granted p o).setSlot _ _ _).modArbiter fun x => { x with candidate := none }).countGrant _ _).trans
          (hslot ((s.granted p o).modArbiter fun x => { x with candidate := none }).countGrant _ _ _))
  · rfl

theorem State.arbiter_grant : (s.grant p).arbiter = { s.arbiter with
    committed := s.arbiter.committed + (s.recipe p.joint.recipe).peak, candidate := none
    stays := s.arbiter.stays.set p.channel none } :=
  State.grant_keeps ho State.arbiter (fun _ _ _ _ => rfl) (fun _ _ _ => rfl) (fun _ _ _ => rfl)

theorem State.ring_grant (m : Lane) : (s.grant p).ring m = if m = p.lane then { s.ring p.lane with
    reserved := (s.ring p.lane).reserved + (s.recipe p.joint.recipe).recordSize } else s.ring m := by
  rw [State.grant_keeps ho (fun t => t.ring m) (fun _ _ _ _ => rfl) (fun _ _ _ => rfl) (fun _ _ _ => rfl)]
  exact State.ring_setRing ..

theorem State.grant_blocks : (s.grant p).pending = s.pending ∧ (s.grant p).ports = s.ports ∧
    (s.grant p).bindings = s.bindings ∧ (s.grant p).family = s.family ∧ (s.grant p).defaults = s.defaults ∧
    (s.grant p).faults = s.faults ∧ (s.grant p).cabinet = s.cabinet ∧ (s.grant p).recipes = s.recipes ∧
    (s.grant p).units = s.units ∧ (s.grant p).draws = s.draws ∧ (s.grant p).grants = s.grants + 1 := by
  have hkept := State.grant_keeps ho (fun t => (t.pending, t.ports, t.bindings, t.family, t.defaults, t.faults,
    t.cabinet, t.recipes, t.units, t.draws, t.grants)) (fun _ _ _ _ => rfl) (fun _ _ _ => rfl) (fun _ _ _ => rfl)
  simpa [State.granted, State.setSlot] using hkept

theorem State.om_grant (m : Lane) : (s.grant p).om m = { s.om m with slots := ((s.grant p).om m).slots } := by
  have hslots : ∀ (t : State) l k (x : Option Order), { (t.setSlot l k x).om m with slots := (s.om m).slots } =
      { t.om m with slots := (s.om m).slots } := fun t l k x => by
    rw [State.om_setSlot]
    split
    · rename_i hm; rw [hm]
    · rfl
  have hkept := State.grant_keeps ho (fun t => { t.om m with slots := (s.om m).slots }) hslots (fun _ _ _ => rfl)
    (fun _ _ _ => rfl)
  have hgranted : { (s.granted p o).om m with slots := (s.om m).slots } = s.om m := hslots _ _ _ _
  rw [show (((s.granted p o).modArbiter fun x => { x with candidate := none }).countGrant).om m =
    (s.granted p o).om m from rfl, hgranted] at hkept
  rw [← hkept]
end

theorem State.order_of_frontOf {s : State} {h : HeadId} {l : Lane} {k : SlotId} {o : Order} {i : Nat} {j : Joint}
    (hfront : s.frontOf h = some (l, k, o, i, j)) : s.order l k = some o ∧ o.joints[i]? = some j := by
  obtain ⟨-, hactive, hfront⟩ := State.frontOf_eq_some.mp hfront
  exact ⟨(State.order_of_active hactive).1, (Order.front_eq_some.mp hfront).2⟩

theorem State.grantPlan_of_fits {s : State} {h : HeadId} {l : Lane} {k : SlotId} {o : Order} {i : Nat} {j : Joint}
    {c : ChannelId} (hcandidate : s.arbiter.candidate = some h) (hreq : s.requesting h = true)
    (hfront : s.frontOf h = some (l, k, o, i, j)) (hchoose : s.chooseChannel h = some c)
    (hfits : s.arbiter.committed + (s.recipe j.recipe).peak ≤ s.arbiter.budget * 10) :
    s.grantPlan = some ⟨h, c, l, k, i, j⟩ := by
  simp only [State.grantPlan, hcandidate, hfront, hchoose, hreq, decide_eq_true hfits, Bool.and_self, if_true]

theorem exec_grant_of_plan {s : State} {p : GrantPlan} (hp : s.grantPlan = some p) :
    exec .grant s = .next (s.grant p).arbitrate := by
  change execGrant s = _
  simp only [execGrant, hp]

theorem exec_grant_of_none {s : State} (hp : s.grantPlan = none) : exec .grant s = .next s := by
  change execGrant s = _
  simp only [execGrant, hp]

theorem transferTime_of_setup {s : State} {x : Setup} (h : s.cabinet.setup = some x) : s.transferTime = x.transfer := by
  rw [State.transferTime, h]
  rfl

/-- Settles O39: what the choice of a channel says, and the grant block by block. -/
theorem grantBeginsAttempt : Obligations.GrantBeginsAttempt := by
  intro h l k o i j c s hcandidate hreq hfront hchoose hfits
  have hidle := State.grantable_iff.mp (s.chooseChannel_grantable h c hchoose)
  obtain ⟨ho, hj⟩ := State.order_of_frontOf hfront
  have hplan := State.grantPlan_of_fits hcandidate hreq hfront hchoose hfits
  generalize hp : (⟨h, c, l, k, i, j⟩ : GrantPlan) = p at hplan
  have hhead : p.head = h := hp ▸ rfl
  have hchan : p.channel = c := hp ▸ rfl
  have hlane : p.lane = l := hp ▸ rfl
  have hslot : p.slot = k := hp ▸ rfl
  have hindex : p.index = i := hp ▸ rfl
  have hjoint : p.joint = j := hp ▸ rfl
  have horder : s.order p.lane p.slot = some o := by rw [hlane, hslot]; exact ho
  have hchanAt := fun d => State.chan_grant horder d
  have hheadAt := fun x => State.head_grant horder x
  have harbiter := State.arbiter_grant horder
  have hring := fun m => State.ring_grant horder m
  obtain ⟨-, hports, -, -, -, hfaults, hcabinet, hrecipes, hunits, hdraws, hgrants⟩ := State.grant_blocks horder
  have hnew : s.newAttempt p =
      ⟨l, k, i, h, j.recipe, j.attempts + 1, (s.recipe j.recipe).peak, false, s.mode == .proof, s.grants⟩ := by
    rw [State.newAttempt, hhead, hlane, hslot, hindex, hjoint]
  simp only [hhead, hchan, hlane, hjoint] at hchanAt hheadAt harbiter hring
  have hat : (s.orderAfterGrant p o).joints[i]? =
      some { j with attempts := j.attempts + 1, state := s.grantedState p } := by
    rw [State.orderAfterGrant, hindex, List.getElem?_modify_eq, hj]
    rfl
  have hcc := (hchanAt c).trans (if_pos rfl)
  refine ⟨hidle.1, hidle.2, fun d hd hstay => State.chooseChannel_best hchoose (State.grantable_iff.mpr ⟨hd, hstay⟩),
    s.grant p, s.orderAfterGrant p o, _, exec_grant_of_plan hplan, by rw [harbiter], by rw [harbiter],
    by rw [harbiter], by rw [harbiter], by rw [harbiter], by rw [harbiter], fun d => ?_, by rw [hring]; simp; rfl,
    by rw [hring]; simp, by rw [State.order_grant horder, hlane, hslot]; simp, rfl, hat, rfl, rfl, fun n hn => ?_, ?_,
    hgrants, hdraws, ?_, ?_, fun x hx => ⟨fun hparked hconn => ?_, fun hnot => ?_⟩, (hheadAt h).trans (if_pos rfl),
    fun hpark => ⟨?_, ?_, ?_, fun g hg => ?_⟩, fun hpark => ⟨?_, ?_, fun x hx => ?_⟩,
    fun d hd => (hchanAt d).trans (if_neg hd), fun m n hmn => ?_, hrecipes, hunits, hfaults, hcabinet, hports⟩
  · rw [State.stay, harbiter]
    exact Vector.get_set_fin ..
  · rw [State.orderAfterGrant, hindex]
    exact List.getElem?_modify_ne _ _ (Ne.symm hn)
  · rw [hcc, hnew]
    split <;> rfl
  · rw [hcc]
    split <;> rfl
  · rw [hheadAt, if_pos rfl]
  · rw [hheadAt, if_neg hx, HeadRec.leave, if_pos ⟨hparked, hconn⟩]
  · rw [hheadAt, if_neg hx, HeadRec.leave, if_neg (fun both => hnot.elim (· both.1) (· both.2))]
  · rw [hcc, if_pos hpark]
  · simp only [State.grantedState, hhead, hchan, hpark, if_true]
  · rw [hcc, if_pos hpark]
  · rw [hcc, if_pos hpark]
    have hg' : (s.recipe (s.newAttempt p).recipe).segments[0]? = some g := by rw [hnew]; exact hg
    rw [State.firstHeat_of_segment hg']
  · rw [hcc, if_neg hpark]
  · simp only [State.grantedState, hhead, hchan, hpark, if_false]
  · rw [hcc, if_neg hpark, transferTime_of_setup hx]
  · rw [State.order_grant horder, hlane, hslot, if_neg (fun both => hmn.elim (· both.1) (· both.2))]

end Sys2Proof.Machine
end

section
/-! PROOF. What a whole arbitration can change (R62 to R68): a relation that each of its steps keeps. -/

namespace Sys2Proof.Machine

/-- A joint after an arbitration: only a READY one can have changed, in its state and its attempt number. -/
def Joint.ArbitratedTo (j j' : Joint) : Prop :=
  j' = { j with state := j'.state, attempts := j'.attempts } ∧ j.attempts ≤ j'.attempts ∧ (j.state ≠ .ready → j' = j)

theorem Joint.ArbitratedTo.refl (j : Joint) : j.ArbitratedTo j := ⟨rfl, Nat.le_refl _, fun _ => rfl⟩

theorem Joint.ArbitratedTo.trans {a b c : Joint} (hab : a.ArbitratedTo b) (hbc : b.ArbitratedTo c) :
    a.ArbitratedTo c := by
  obtain ⟨hb, hle, hkeep⟩ := hab
  obtain ⟨hc, hle', hkeep'⟩ := hbc
  refine ⟨?_, hle.trans hle', fun h => ?_⟩
  · rw [hb] at hc
    exact hc
  · have he := hkeep h
    rw [he] at hkeep'
    exact hkeep' h

/-- An order after an arbitration: its joints, and the proof mark. -/
def Order.ArbitratedTo (o o' : Order) : Prop :=
  o' = { o with joints := o'.joints, proof := o'.proof } ∧ o'.joints.length = o.joints.length ∧
    ∀ (i : Nat) (j : Joint), o.joints[i]? = some j → ∃ j', o'.joints[i]? = some j' ∧ j.ArbitratedTo j'

theorem Order.ArbitratedTo.refl (o : Order) : o.ArbitratedTo o := ⟨rfl, rfl, fun _ j hj => ⟨j, hj, .refl j⟩⟩

theorem Order.ArbitratedTo.trans {a b c : Order} (hab : a.ArbitratedTo b) (hbc : b.ArbitratedTo c) :
    a.ArbitratedTo c := by
  obtain ⟨hb, hlen, hjoints⟩ := hab
  obtain ⟨hc, hlen', hjoints'⟩ := hbc
  refine ⟨?_, hlen'.trans hlen, fun i j hj => ?_⟩
  · rw [hb] at hc
    exact hc
  · obtain ⟨j', hj', h1⟩ := hjoints i j hj
    obtain ⟨j'', hj'', h2⟩ := hjoints' i j' hj'
    exact ⟨j'', hj'', h1.trans h2⟩

/-- What lies between a state and the one an arbitration makes of it. -/
structure State.ArbitratedTo (s t : State) : Prop where
  chan : ∀ c, (s.chan c).state ≠ .idle → t.chan c = s.chan c
  occupied : ∀ l k, (t.order l k).isSome = (s.order l k).isSome
  order : ∀ l k o, s.order l k = some o → ∃ o', t.order l k = some o' ∧ o.ArbitratedTo o'
  om : ∀ l, t.om l = { s.om l with slots := (t.om l).slots }
  head : ∀ h, t.head h = { s.head h with sensorTimer := (t.head h).sensorTimer, connected := (t.head h).connected }
  ring : ∀ l, (t.ring l).records = (s.ring l).records ∧ (t.ring l).reader = (s.ring l).reader ∧
    (s.ring l).reserved ≤ (t.ring l).reserved
  budget : t.arbiter.budget = s.arbiter.budget
  committed : s.arbiter.committed ≤ t.arbiter.committed
  fits : s.arbiter.committed < t.arbiter.committed → t.arbiter.committed ≤ t.arbiter.budget * 10
  blocks : t.pending = s.pending ∧ t.ports = s.ports ∧ t.bindings = s.bindings ∧ t.family = s.family ∧
    t.defaults = s.defaults ∧ t.faults = s.faults ∧ t.cabinet = s.cabinet ∧ t.recipes = s.recipes ∧
    t.units = s.units ∧ t.draws = s.draws ∧ s.grants ≤ t.grants

namespace State.ArbitratedTo

theorem refl (s : State) : s.ArbitratedTo s where
  chan := fun _ _ => rfl
  occupied := fun _ _ => rfl
  order := fun _ _ o ho => ⟨o, ho, .refl o⟩
  om := fun _ => rfl
  head := fun _ => rfl
  ring := fun _ => ⟨rfl, rfl, Nat.le_refl _⟩
  budget := rfl
  committed := Nat.le_refl _
  fits := fun h => absurd h (Nat.lt_irrefl _)
  blocks := ⟨rfl, rfl, rfl, rfl, rfl, rfl, rfl, rfl, rfl, rfl, Nat.le_refl _⟩

theorem trans {s t u : State} (h : s.ArbitratedTo t) (h' : t.ArbitratedTo u) : s.ArbitratedTo u where
  chan := fun c hc => (h'.chan c (by rw [h.chan c hc]; exact hc)).trans (h.chan c hc)
  occupied := fun l k => (h'.occupied l k).trans (h.occupied l k)
  order := fun l k o ho => by
    obtain ⟨o', ho', h1⟩ := h.order l k o ho
    obtain ⟨o'', ho'', h2⟩ := h'.order l k o' ho'
    exact ⟨o'', ho'', h1.trans h2⟩
  om := fun l => by
    have h2 := h'.om l
    rw [h.om l] at h2
    exact h2
  head := fun x => by
    have h2 := h'.head x
    rw [h.head x] at h2
    exact h2
  ring := fun l => ⟨(h'.ring l).1.trans (h.ring l).1, (h'.ring l).2.1.trans (h.ring l).2.1,
    (h.ring l).2.2.trans (h'.ring l).2.2⟩
  budget := h'.budget.trans h.budget
  committed := h.committed.trans h'.committed
  fits := fun hlt => by
    rcases Nat.eq_or_lt_of_le h'.committed with heq | hlt'
    · rw [← heq, h'.budget]
      exact h.fits (heq ▸ hlt)
    · exact h'.fits hlt'
  blocks := by
    obtain ⟨h1, h2, h3, h4, h5, h6, h7, h8, h9, h10, h11⟩ := h.blocks
    obtain ⟨g1, g2, g3, g4, g5, g6, g7, g8, g9, g10, g11⟩ := h'.blocks
    exact ⟨g1.trans h1, g2.trans h2, g3.trans h3, g4.trans h4, g5.trans h5, g6.trans h6, g7.trans h7, g8.trans h8,
      g9.trans h9, g10.trans h10, h11.trans g11⟩

/-- The candidate, the pointers and the low turn are the arbiter's own. -/
theorem setArbiter {s : State} {a : Arbiter} (hbudget : a.budget = s.arbiter.budget)
    (hcommitted : a.committed = s.arbiter.committed) : s.ArbitratedTo (s.setArbiter a) where
  chan := fun _ _ => rfl
  occupied := fun _ _ => rfl
  order := fun _ _ o ho => ⟨o, ho, .refl o⟩
  om := fun _ => rfl
  head := fun _ => rfl
  ring := fun _ => ⟨rfl, rfl, Nat.le_refl _⟩
  budget := hbudget
  committed := Nat.le_of_eq hcommitted.symm
  fits := fun h => absurd (lt_of_lt_of_eq h hcommitted) (Nat.lt_irrefl _)
  blocks := ⟨rfl, rfl, rfl, rfl, rfl, rfl, rfl, rfl, rfl, rfl, Nat.le_refl _⟩

theorem dropCandidate (s : State) : s.ArbitratedTo s.dropCandidate := by
  unfold State.dropCandidate
  split
  · split
    · exact refl s
    · exact setArbiter rfl rfl
  · exact refl s

theorem nameCandidate (s : State) : s.ArbitratedTo s.nameCandidate := by
  unfold State.nameCandidate
  split
  · exact refl s
  · split
    · rename_i a ha
      have hsame : a.budget = s.arbiter.budget ∧ a.committed = s.arbiter.committed := by
        unfold State.naming at ha
        dsimp only at ha
        (repeat' split at ha) <;> cases ha <;> exact ⟨rfl, rfl⟩
      exact setArbiter hsame.1 hsame.2
    · exact refl s

end State.ArbitratedTo

theorem State.ready_of_requesting {s : State} {h : HeadId} {l : Lane} {k : SlotId} {o : Order} {i : Nat} {j : Joint}
    (hreq : s.requesting h = true) (hfront : s.frontOf h = some (l, k, o, i, j)) : j.state = .ready := by
  unfold State.requesting at hreq
  rw [hfront] at hreq
  simp only [Bool.and_eq_true, beq_iff_eq] at hreq
  tauto

/-- A grant changes the READY joint of its plan and marks the order. -/
theorem State.orderAfterGrant_arbitrated {s : State} {p : GrantPlan} {o : Order}
    (hready : ∀ j, o.joints[p.index]? = some j → j.state = .ready) : o.ArbitratedTo (s.orderAfterGrant p o) := by
  refine ⟨rfl, List.length_modify _ _ _, fun i j hj => ?_⟩
  by_cases hi : i = p.index
  · subst hi
    refine ⟨_, by rw [State.orderAfterGrant, List.getElem?_modify_eq, hj]; rfl, rfl, Nat.le_succ _, fun hne => ?_⟩
    exact absurd (hready j hj) hne
  · exact ⟨j, by rw [State.orderAfterGrant, List.getElem?_modify_ne _ _ (Ne.symm hi), hj], .refl j⟩

theorem State.ArbitratedTo.grant {s : State} {p : GrantPlan} (hp : s.grantPlan = some p) :
    s.ArbitratedTo (s.grant p) := by
  obtain ⟨-, hreq, hchoose, ⟨o, hfront⟩, hfits⟩ := s.grantPlan_spec p hp
  obtain ⟨ho, hj⟩ := State.order_of_frontOf hfront
  have hidle := (State.grantable_iff.mp (s.chooseChannel_grantable _ _ hchoose)).1
  have hready : ∀ j, o.joints[p.index]? = some j → j.state = .ready := fun j hj' => by
    rw [hj] at hj'
    cases hj'
    exact State.ready_of_requesting hreq hfront
  have harbiter := State.arbiter_grant ho
  refine { chan := fun c hc => ?_, occupied := fun l k => ?_, order := fun l k o' ho' => ?_, om := State.om_grant ho,
           head := fun x => ?_, ring := fun l => ?_, budget := by rw [harbiter],
           committed := by rw [harbiter]; exact Nat.le_add_right _ _, fits := fun _ => by rw [harbiter]; exact hfits,
           blocks := ?_ }
  · rw [State.chan_grant ho, if_neg]
    rintro rfl
    exact hc hidle
  · rw [State.order_grant ho]
    split
    · rename_i hlk
      rw [hlk.1, hlk.2, ho]
      rfl
    · rfl
  · rw [State.order_grant ho]
    split
    · rename_i hlk
      rw [hlk.1, hlk.2, ho] at ho'
      cases ho'
      exact ⟨_, rfl, State.orderAfterGrant_arbitrated hready⟩
    · exact ⟨o', ho', .refl o'⟩
  · rw [State.head_grant ho]
    split
    · rename_i hx
      rw [hx]
    · unfold HeadRec.leave
      split <;> rfl
  · rw [State.ring_grant ho]
    split
    · rename_i hl
      rw [hl]
      exact ⟨rfl, rfl, Nat.le_add_right _ _⟩
    · exact ⟨rfl, rfl, Nat.le_refl _⟩
  · obtain ⟨h1, h2, h3, h4, h5, h6, h7, h8, h9, h10, h11⟩ := State.grant_blocks ho
    exact ⟨h1, h2, h3, h4, h5, h6, h7, h8, h9, h10, by rw [h11]; exact Nat.le_succ _⟩

theorem State.ArbitratedTo.rounds (n : Nat) (s : State) : s.ArbitratedTo (arbitrateRounds n s) := by
  induction n generalizing s with
  | zero => exact .refl s
  | succ n ih =>
    rw [arbitrateRounds]
    have hjudged := (State.ArbitratedTo.dropCandidate s).trans (.nameCandidate s.dropCandidate)
    cases hp : s.dropCandidate.nameCandidate.grantPlan with
    | none => exact hjudged
    | some p => exact (hjudged.trans (.grant hp)).trans (ih _)

theorem State.arbitrate_to (s : State) : s.ArbitratedTo s.arbitrate := .rounds 7 s

/-! ### Where nothing can be granted -/

/-- No channel can be granted to the head within the budget. -/
def State.NoGrant (s : State) (h : HeadId) : Prop := ∀ l k o i j c, s.frontOf h = some (l, k, o, i, j) →
  s.grantable c h = true → s.arbiter.budget * 10 < s.arbiter.committed + (s.recipe j.recipe).peak

theorem State.grantPlan_eq_none_iff {s : State} {h : HeadId} (hcandidate : s.arbiter.candidate = some h)
    (hreq : s.requesting h = true) : s.grantPlan = none ↔ s.NoGrant h := by
  constructor
  · intro hp l k o i j c hfront hc
    obtain ⟨d, hd⟩ := State.chooseChannel_isSome hc
    by_contra hfits
    rw [State.grantPlan_of_fits hcandidate hreq hfront hd (Nat.not_lt.mp hfits)] at hp
    cases hp
  · intro hno
    cases hp : s.grantPlan with
    | none => rfl
    | some p =>
      obtain ⟨hc, -, hchoose, ⟨o, hfront⟩, hfits⟩ := s.grantPlan_spec p hp
      rw [hcandidate] at hc
      cases hc
      exact absurd hfits (Nat.not_le.mpr (hno _ _ _ _ _ _ hfront (s.chooseChannel_grantable _ _ hchoose)))

theorem State.served_of_naming_none {s : State} (hn : s.naming = none) (h : HeadId) : s.served h = false := by
  have hnone : s.nextOf .high s.arbiter.highPtr = none ∧ s.nextOf .low s.arbiter.lowPtr = none := by
    unfold State.naming at hn
    dsimp only at hn
    split at hn
    · exact absurd hn (Option.some_ne_none _)
    · split at hn
      · exact absurd hn (Option.some_ne_none _)
      · rename_i hhigh
        split at hn
        · exact absurd hn (Option.some_ne_none _)
        · rename_i hlow
          exact ⟨hhigh, hlow⟩
  by_contra hserved
  rw [Bool.not_eq_false] at hserved
  have h1 := State.nextOf_eq_none hnone.1 h hserved
  have h2 := State.nextOf_eq_none hnone.2 h hserved
  cases hcls : (s.head h).cls with
  | high => exact h1 hcls
  | low => exact h2 hcls

theorem State.naming_none_of_served {s : State} (h : ∀ h, s.served h = false) : s.naming = none := by
  cases hn : s.naming with
  | none => rfl
  | some a =>
    obtain ⟨x, -, hserved, -⟩ := s.naming_served hn
    rw [h x] at hserved
    cases hserved

theorem exec_grant_of_candidate {s : State} {h : HeadId} (hc : s.arbiter.candidate = some h)
    (hreq : s.requesting h = true) : exec .grant s = .next s.arbitrate := by
  rw [State.arbitrate_candidate s hc hreq]
  cases hp : s.grantPlan with
  | none => exact exec_grant_of_none hp
  | some p => exact exec_grant_of_plan hp

theorem exec_candidateNaming_of_none {s : State} (hc : s.arbiter.candidate = none) :
    exec .candidateNaming s = .next s.arbitrate := by
  cases hn : s.naming with
  | none => rw [exec_candidateNaming_none hn, s.arbitrate_idle hc hn]
  | some a => rw [exec_candidateNaming_named hc hn, s.arbitrate_naming hc hn]

/-- Settles O40: the relation that every step of an arbitration keeps, and where it comes to rest. -/
theorem arbitrationTouchesOnlyIdleChannelsAndReadyJoints :
    Obligations.ArbitrationTouchesOnlyIdleChannelsAndReadyJoints := by
  intro s
  dsimp only
  obtain ⟨hrequests, hnaming, hplan⟩ := s.arbitrate_rest s.arbitrate rfl
  have hto := s.arbitrate_to
  obtain ⟨hpending, hports, hbindings, hfamily, hdefaults, hfaults, hcabinet, hrecipes, hunits, hdraws, hgrants⟩ :=
    hto.blocks
  refine ⟨fun h hc => ⟨hrequests h hc, (State.grantPlan_eq_none_iff hc (hrequests h hc)).mp hplan⟩,
    fun hc => State.served_of_naming_none (hnaming hc), fun h hc => ⟨fun hreq => ⟨s.arbitrate_drop hc hreq, ?_⟩,
      fun hreq => ⟨exec_grant_of_candidate hc hreq, fun hno => ?_, ?_⟩⟩,
    fun hc => ⟨exec_candidateNaming_of_none hc, fun hserved => s.arbitrate_idle hc (State.naming_none_of_served hserved),
      ?_⟩, hto.chan, hto.occupied, fun l k o ho => ?_, hto.om, hto.head, hto.ring, hto.budget, hto.committed, hto.fits,
    hrecipes, hunits, hpending, hports, hbindings, hfamily, hdefaults, hfaults, hcabinet, hdraws, hgrants⟩
  · simp only [State.dropCandidate, hc, hreq, Bool.false_eq_true, if_false]
    rfl
  · rw [State.arbitrate_candidate s hc hreq, (State.grantPlan_eq_none_iff hc hreq).mpr hno]
  · simp only [State.dropCandidate, hc, hreq, if_true]
  · simp only [State.dropCandidate, hc]
  · obtain ⟨o', ho', hsame, hlen, hjoints⟩ := hto.order l k o ho
    exact ⟨o', ho', hsame, hlen, hjoints⟩

end Sys2Proof.Machine
end

section
/-! PROOF. The field events of heads and channels, CUE, the acknowledging of records and the cabinet inputs (chapters 3, 5
to 7): each is a few named states and the operation that follows. -/

namespace Sys2Proof.Machine

/-! ### The passing of time touches timers alone -/

section
variable (s : State) (n : Nat)

theorem State.order_elapse (l : Lane) (k : SlotId) : (s.elapse n).order l k = s.order l k := by
  simp only [State.order, State.om_elapse]

theorem State.active_elapse (l : Lane) : (s.elapse n).active l = s.active l :=
  State.active_congr fun k => s.order_elapse n l k

theorem State.heatingChannel_congr {t u : State} {h : HeadId} (hhead : (t.head h).connected = (u.head h).connected)
    (hchan : ∀ c, (t.chan c).state = (u.chan c).state) : t.heatingChannel h = u.heatingChannel h := by
  simp only [State.heatingChannel, hhead, hchan]

theorem State.heatingChannel_elapse (h : HeadId) : (s.elapse n).heatingChannel h = s.heatingChannel h :=
  State.heatingChannel_congr (by rw [State.head_elapse]) (fun c => by rw [State.chan_elapse])

theorem State.frontOf_congr {t u : State} {h : HeadId} (hlane : (t.head h).lane = (u.head h).lane)
    (hactive : ∀ l, t.active l = u.active l) : t.frontOf h = u.frontOf h := by
  simp only [State.frontOf, hlane, hactive]
end

theorem State.heatingChannel_eq_some {s : State} {h : HeadId} {c : ChannelId} :
    s.heatingChannel h = some c ↔ (s.head h).connected = some c ∧ (s.chan c).state = .heating := by
  unfold State.heatingChannel
  cases hconn : (s.head h).connected with
  | none => simp
  | some d =>
    dsimp only
    by_cases hd : (s.chan d).state = .heating
    · simp only [hd, if_true, Option.some.injEq]
      constructor
      · rintro rfl
        exact ⟨rfl, hd⟩
      · exact fun both => both.1
    · simp only [hd, if_false, reduceCtorEq, Option.some.injEq, false_iff, not_and]
      rintro rfl
      exact hd

/-! ### CUE (R54) -/

theorem State.waitingForCue_of_front {s : State} {h : HeadId} {l : Lane} {k : SlotId} {o : Order} {i : Nat} {j : Joint}
    (hfront : s.frontOf h = some (l, k, o, i, j)) (hwait : j.state = .cueWait) :
    s.waitingForCue h = some (l, k, i) := by
  simp only [State.waitingForCue, hfront, hwait, if_true]

theorem State.waitingForCue_none {s : State} {h : HeadId}
    (hno : ∀ l k o i j, s.frontOf h = some (l, k, o, i, j) → j.state ≠ .cueWait) : s.waitingForCue h = none := by
  unfold State.waitingForCue
  split
  · rfl
  · rename_i l k o i j hfront
    exact if_neg (hno l k o i j hfront)

theorem cueBody_otherLane {l : Lane} {h : HeadId} {s : State} (hsetup : s.mode ≠ .unconfigured)
    (hquench : s.mode ≠ .quenched) (hlane : (s.head h).lane ≠ some l) :
    cueBody (be1 h.val) l s = .error .headNotLane := by
  have hof : s.ofLane l h = false := beq_eq_false_iff_ne.mpr hlane
  simp only [cueBody, byteAt_be1_val h (by decide), h.isLt, decide_true, need_true, needMode_of_ne hsetup hquench,
    Fin.ofNat_val_eq_self, hof, need_false]

section
variable {l : Lane} {h : HeadId} {s : State} (hsetup : s.mode ≠ .unconfigured) (hquench : s.mode ≠ .quenched)
  (hlane : (s.head h).lane = some l)
include hsetup hquench hlane

theorem cueBody_taken {k : SlotId} {i : Nat} (hwait : s.waitingForCue h = some (l, k, i)) :
    cueBody (be1 h.val) l s = .ok ((s.modJoint l k i fun j => { j with state := .ready }).arbitrate, []) := by
  have hof : s.ofLane l h = true := beq_iff_eq.mpr hlane
  simp only [cueBody, byteAt_be1_val h (by decide), h.isLt, decide_true, need_true, needMode_of_ne hsetup hquench,
    Fin.ofNat_val_eq_self, hof, hwait]

theorem cueBody_latched (hwait : s.waitingForCue h = none) :
    cueBody (be1 h.val) l s = need (!(s.head h).cueLatch) .cueHeld
      (.ok (s.setHead h { s.head h with cueLatch := true }, [])) := by
  have hof : s.ofLane l h = true := beq_iff_eq.mpr hlane
  simp only [cueBody, byteAt_be1_val h (by decide), h.isLt, decide_true, need_true, needMode_of_ne hsetup hquench,
    Fin.ofNat_val_eq_self, hof, hwait, State.modHead_eq]
end

/-- Settles O31: the front joint that waits takes the cue, else the latch does. -/
theorem cueIsTakenOrHeld : Obligations.CueIsTakenOrHeld := by
  intro p l h tag s hport htakes hsetup hquench
  dsimp only
  refine ⟨fun hlane => serveLane_refused hport htakes (cueBody_otherLane hsetup hquench hlane), fun hlane =>
    ⟨fun k o i j hactive hfront hwait => ?_, fun hno => ?_⟩⟩
  · have hfrontOf := State.frontOf_eq_some.mpr ⟨hlane, hactive, hfront⟩
    exact serveLane_accepted hport htakes
      (cueBody_taken hsetup hquench hlane (State.waitingForCue_of_front hfrontOf hwait))
  · have hnone : s.waitingForCue h = none := State.waitingForCue_none fun m k o i j hfrontOf => by
      obtain ⟨hm, hactive, hfront⟩ := State.frontOf_eq_some.mp hfrontOf
      rw [hlane] at hm
      cases hm
      exact hno k o i j hactive hfront
    have hbody := cueBody_latched hsetup hquench hlane hnone
    refine ⟨fun hlatch => ?_, fun hlatch => ?_⟩
    · rw [hlatch] at hbody
      exact serveLane_refused hport htakes hbody
    · rw [hlatch] at hbody
      exact serveLane_accepted hport htakes hbody

/-! ### Readings (R47, R91) -/

theorem exec_pyrometerReading_valid {v : Nat} (hv : v ≤ 1200) (h : HeadId) (s : State) :
    exec (.pyrometerReading h (some v)) s = .next (s.storeReading h v) := if_pos hv

theorem State.storeReading_apart {s : State} {h : HeadId} (v : Nat)
    (hapart : s.mode ≠ .live ∨ s.heatingChannel h = none) :
    s.storeReading h v = s.setHead h { s.head h with temp := some v, sensorTimer := some 20 } := by
  unfold State.storeReading
  dsimp only
  split
  · rfl
  · rename_i c hc
    rw [hc] at hapart
    exact if_neg (hapart.elim id (fun hno => absurd hno (Option.some_ne_none c)))

theorem State.storeReading_heating {s : State} {h : HeadId} {c : ChannelId} (v : Nat) (hmode : s.mode = .live)
    (hc : s.heatingChannel h = some c) :
    s.storeReading h v =
      ((s.setHead h { s.head h with temp := some v, sensorTimer := some 20 }).takeReading c h v).arbitrate := by
  simp only [State.storeReading, hc, hmode, if_true]
  rfl

/-- Settles O32: a heating channel judges the reading against the limit first and the target then. -/
theorem readingsAreStoredAndJudged : Obligations.ReadingsAreStoredAndJudged := by
  refine fun h s => ⟨rfl, fun v hv => ?_⟩
  dsimp only
  rw [exec_pyrometerReading_valid hv]
  refine ⟨fun hapart => congrArg _ (State.storeReading_apart v hapart), fun c a w hmode hconn hstate ha hw => ?_⟩
  rw [State.storeReading_heating v hmode (State.heatingChannel_eq_some.mpr ⟨hconn, hstate⟩)]
  have hpeak : (s.setHead h { s.head h with temp := some v, sensorTimer := some 20 }).notePeak c v =
      (s.setHead h { s.head h with temp := some v, sensorTimer := some 20 }).setChan c
        { s.chan c with heat := some { w with peakTemp := max w.peakTemp v } } := by
    simp only [State.notePeak, State.modChan_eq, State.reads_setHead, hw, Option.map_some]
  unfold State.takeReading
  rw [hpeak]
  generalize ht : (s.setHead h { s.head h with temp := some v, sensorTimer := some 20 }).setChan c
        { s.chan c with heat := some { w with peakTemp := max w.peakTemp v } } = t
  have hchan : t.chan c = { s.chan c with heat := some { w with peakTemp := max w.peakTemp v } } := by
    rw [← ht, State.chan_setChan, if_pos rfl]
  have hlimit : t.aboveLimit c v = decide ((s.recipe a.recipe).overtemp < v) := by
    rw [State.aboveLimit, hchan, ha, ← ht]
    rfl
  have hmeets : t.meetsTarget c h v = true ↔ ∃ g target, (s.recipe a.recipe).segments[w.segment - 1]? = some g ∧
      g.tempTarget = some target ∧ target ≤ v + (s.head h).anticipation := by
    have hsegment : t.segmentOf c = (s.recipe a.recipe).segments[w.segment - 1]? := by
      rw [State.segmentOf_eq (a := a) (w := { w with peakTemp := max w.peakTemp v }) (by rw [hchan]; exact ha)
        (by rw [hchan]), ← ht]
      rfl
    have hant : (t.head h).anticipation = (s.head h).anticipation := by rw [← ht]; simp
    rw [State.meetsTarget, hsegment, hant]
    cases (s.recipe a.recipe).segments[w.segment - 1]? <;> simp [Option.any_eq_true]
  dsimp only
  refine ⟨fun hover => ?_, fun hunder hmet => ?_, fun hunder hunmet => ?_⟩
  · rw [hlimit, decide_eq_true hover, if_pos rfl]
  · rw [hlimit, decide_eq_false (Nat.not_lt.mpr hunder), if_neg Bool.false_ne_true, if_pos (hmeets.mpr hmet)]
  · rw [hlimit, decide_eq_false (Nat.not_lt.mpr hunder), if_neg Bool.false_ne_true, if_neg (hunmet ∘ hmeets.mp)]

/-! ### Sensor loss (R48, R49) -/

theorem State.takeSensorExpiry_apart {s : State} {h : HeadId} (hapart : s.mode ≠ .live ∨ s.heatingChannel h = none) :
    s.takeSensorExpiry h = s.setHead h { s.head h with temp := none, sensorTimer := none } := by
  unfold State.takeSensorExpiry
  dsimp only
  split
  · rfl
  · rename_i c hc
    rw [hc] at hapart
    exact if_neg (hapart.elim id (fun hno => absurd hno (Option.some_ne_none c)))

theorem State.takeSensorExpiry_heating {s : State} {h : HeadId} {c : ChannelId} (hmode : s.mode = .live)
    (hc : s.heatingChannel h = some c) :
    s.takeSensorExpiry h =
      ((s.setHead h { s.head h with temp := none, sensorTimer := none }).cutAttempt c .sensorLost .idle).arbitrate := by
  simp only [State.takeSensorExpiry, hc, hmode, if_true, State.modHead_eq]

/-- Settles O33: the timer is stopped and the temperature gone; a heating channel cuts its attempt. -/
theorem sensorTimerExpiryIsTaken : Obligations.SensorTimerExpiryIsTaken := by
  refine fun h s => ⟨fun hnone => ?_, fun left hleft => ?_⟩
  · change execSensorTimerExpiry h s = _
    rw [execSensorTimerExpiry, hnone]
  · have hexec : exec (.sensorTimerExpiry h) s = .next ((s.elapse left).takeSensorExpiry h) := by
      change execSensorTimerExpiry h s = _
      rw [execSensorTimerExpiry, hleft]
    dsimp only
    rw [hexec]
    refine ⟨fun hapart => congrArg _ (State.takeSensorExpiry_apart ?_), fun c hmode hc => congrArg _
      (State.takeSensorExpiry_heating hmode ?_)⟩
    · rwa [State.heatingChannel_elapse]
    · rwa [State.heatingChannel_elapse]

/-! ### Coolant reports (R50) -/

/-- Settles O34: the three cases of a report of LOW, on the state with the switch stored. -/
theorem coolantReportsAreTaken : Obligations.CoolantReportsAreTaken := by
  refine fun h s => ⟨rfl, ?_⟩
  dsimp only
  have hexec : exec (.coolantSwitchReport h .low) s =
      .next ((s.setHead h { s.head h with coolant := .low }).coolantLow h) := rfl
  rw [hexec]
  have hheating : (s.setHead h { s.head h with coolant := .low }).heatingChannel h = s.heatingChannel h :=
    State.heatingChannel_congr (by simp) (fun c => rfl)
  have hflag : ((s.setHead h { s.head h with coolant := .low }).head h).health.coolantLow =
      (s.head h).health.coolantLow := by simp
  unfold State.coolantLow
  rw [hflag, hheating]
  refine ⟨fun hset => by rw [if_pos hset], fun hclear => ⟨fun hnone => ?_, fun c a hc ha => ?_⟩⟩
  · rw [if_neg (by simp [hclear]), hnone]
  · have hentry : (s.setHead h { s.head h with coolant := .low }).faultEntry .headCoolant (some c)
        ((s.setHead h { s.head h with coolant := .low }).chan c).attempt =
        { cause := .headCoolant, channel := some c, head := some a.head, lane := some a.lane, slot := some a.slot,
          tag := (s.order a.lane a.slot).map (·.tag), joint := some a.joint, time := s.now } := by
      rw [State.reads_setHead s h _ |>.2.2.1 c, ha]
      rfl
    rw [if_neg (by simp [hclear]), hc]
    dsimp only
    refine ⟨fun hresponse => ?_, fun hresponse => ?_⟩
    · rw [State.headCoolantFault, hentry, State.setHead_faults, hresponse]
    · rw [State.headCoolantFault, hentry, State.setHead_faults, hresponse]

/-! ### Cool-until (R56) -/

/-- Settles O36: the front joint is the one before the expiry, whose cool-until alone is gone. -/
theorem coolUntilExpiryReadiesCoolingJoint : Obligations.CoolUntilExpiryReadiesCoolingJoint := by
  refine fun h s => ⟨fun hnone => ?_, fun left hleft => ?_⟩
  · change execCoolUntilExpiry h s = _
    rw [execCoolUntilExpiry, hnone]
  · have hexec : exec (.coolUntilExpiry h) s = .next ((s.elapse left).takeCooled h) := by
      change execCoolUntilExpiry h s = _
      rw [execCoolUntilExpiry, hleft]
    have hfrontOf : ((s.elapse left).setHead h { (s.elapse left).head h with coolUntil := none }).frontOf h =
        s.frontOf h :=
      State.frontOf_congr (by rw [State.head_setHead, if_pos rfl, State.head_elapse])
        (fun l => s.active_elapse left l)
    rw [hexec]
    unfold State.takeCooled
    dsimp only [State.modHead_eq] at hfrontOf ⊢
    rw [hfrontOf]
    refine ⟨fun l k o i j hfront hcooling => ?_, fun hno => ?_⟩
    · rw [hfront]
      dsimp only
      rw [if_pos hcooling]
    · cases hfront : s.frontOf h with
      | none => rfl
      | some x =>
        obtain ⟨l, k, o, i, j⟩ := x
        dsimp only
        rw [if_neg (hno l k o i j hfront)]

/-! ### Moves (R76, R77) -/

theorem State.chan_enterHeating {s : State} {c : ChannelId} {a : Attempt} (ha : (s.chan c).attempt = some a) :
    (s.enterHeating c).chan c =
      { s.chan c with state := .heating, moveTimer := none, heat := some (s.firstHeat a) } := by
  cases ho : s.order a.lane a.slot with
  | some o =>
    rw [State.enterHeating_eq ha ho, State.chan_setChan, if_pos rfl]
  | none =>
    have hnone : (s.modChan c fun r => { r with
        state := .heating, moveTimer := none, heat := some (Heating.fresh s.now) }).order a.lane a.slot = none := ho
    have hjoint : ∀ f, (s.modChan c fun r => { r with
        state := .heating, moveTimer := none, heat := some (Heating.fresh s.now) }).modJoint a.lane a.slot a.joint f =
        s.modChan c fun r => { r with
          state := .heating, moveTimer := none, heat := some (Heating.fresh s.now) } := fun f => by
      rw [State.modJoint, State.modOrder, hnone]
    unfold State.enterHeating
    rw [ha]
    dsimp only
    rw [hjoint, State.modHead_eq, State.modChan_eq]
    have hattempt : (((s.setChan c { s.chan c with
        state := .heating, moveTimer := none, heat := some (Heating.fresh s.now) }).setHead a.head
        ((s.setChan c { s.chan c with
          state := .heating, moveTimer := none, heat := some (Heating.fresh s.now) }).head a.head).goHeating).chan
        c).attempt = some a := by simp [ha]
    cases hg : (s.recipe a.recipe).segments[0]? with
    | some g =>
      rw [State.startSegment_eq (n := 1) (g := g) hattempt (by simpa using hg)]
      simp [State.firstHeat, hg]
    | none =>
      rw [State.startSegment_none (n := 1) hattempt (by simpa using hg)]
      simp [State.firstHeat, hg]

/-- Settles O41: a completed move by what its channel holds. -/
theorem moveCompletionIsTaken : Obligations.MoveCompletionIsTaken := by
  refine fun c confirmed load s => ⟨fun hnone => ?_, fun left hleft hstate => ?_⟩
  · change execMoveCompletion c confirmed load s = _
    rw [execMoveCompletion, hnone]
  · have hexec : exec (.moveCompletion c confirmed load) s =
        .next ((s.elapse left).moveCompletes c confirmed load).arbitrate := by
      change execMoveCompletion c confirmed load s = _
      rw [execMoveCompletion, hleft]
      exact if_pos hstate
    have hattempt : ((s.elapse left).chan c).attempt = (s.chan c).attempt := by rw [State.chan_elapse]
    dsimp only
    rw [hexec]
    unfold State.moveCompletes
    rw [hattempt]
    refine ⟨fun a ha hkept => ?_, fun a ha habandoned => ?_, fun hbare => ?_⟩
    · rw [ha]
      dsimp only
      rw [if_neg (by simp [hkept])]
      refine ⟨fun hno => by rw [hno, if_neg Bool.false_ne_true], fun hyes hlive hload => ?_,
        fun hyes hor => ⟨?_, ?_⟩⟩
      · rw [if_pos hyes, if_pos ⟨hlive, hload⟩]
      · rw [if_pos hyes, if_neg]
        rintro ⟨hlive, hload⟩
        rcases hor with hnot | hthere
        · exact hnot hlive
        · rw [hload] at hthere
          cases hthere
      · rw [State.chan_enterHeating (hattempt.trans ha)]
        exact ⟨rfl, fun g hg => congrArg some (State.firstHeat_of_segment hg)⟩
    · rw [ha]
      dsimp only
      rw [if_pos habandoned, State.checkMatrix]
      cases confirmed <;> rfl
    · rw [hbare]
      dsimp only
      rw [State.checkMatrix]
      cases confirmed <;> rfl

/-! ### Segments (R90 to R94) -/

theorem State.judged_iff (s : State) (g : Segment) : s.judged g = true ↔
    g.energyTarget.isSome ∨ (s.mode ≠ .proof ∧ g.tempTarget.isSome) := by
  simp [State.judged]

theorem State.segmentEnd_eq {s : State} {c : ChannelId} {a : Attempt} {w : Heating} {g : Segment}
    (ha : (s.chan c).attempt = some a) (hw : (s.chan c).heat = some w)
    (hg : (s.recipe a.recipe).segments[w.segment - 1]? = some g) (reason : EndReason) :
    s.segmentEnd c reason =
      if reason = .time ∧ g.required = true ∧ s.judged g = true then
        (s.recordSegment c reason).endAttempt c .shortfall .idle
      else if (s.recipe a.recipe).segments.length ≤ w.segment then (s.recordSegment c reason).endAttempt c .good .idle
      else (s.recordSegment c reason).startSegment c (w.segment + 1) := by
  unfold State.segmentEnd
  rw [State.segmentOf_eq ha hw, hg]
  dsimp only
  rw [ha]
  dsimp only
  rw [hw]

/-- Settles O42: the recording of the segment that ends, and the three ways to go on. -/
theorem segmentsEndAndFollow : Obligations.SegmentsEndAndFollow := by
  intro c a w g s ha hw hg
  dsimp only
  have hname : (⟨a.lane, a.slot, a.joint, a.head, a.recipe, a.number, a.serial⟩ : AttemptName) = a.name := rfl
  refine ⟨?_, fun n k => ⟨fun hstate hn hk htarget hpower => ?_, fun hother => ?_⟩,
    fun hstate => by rw [State.moduleDrive_heating hstate ha hw hg]; rfl, State.moduleDrive_other, fun reason => ?_⟩
  · change execSegmentTimerExpiry c s = _
    rw [execSegmentTimerExpiry, hw]
  · have htaken := (State.reportTaken_iff ha hw hg n k).mpr ⟨hstate, htarget, hn.symm, hk.symm, hpower⟩
    exact if_pos htaken
  · have hnot : ¬ s.reportTaken c n k = true := fun htaken => by
      obtain ⟨-, -, hn, hk, -⟩ := (State.reportTaken_iff ha hw hg n k).mp htaken
      exact hother.elim (fun hne => hne hn.symm) (fun hne => hne hk.symm)
    exact if_neg hnot
  · have hsegment := (State.segmentOf_eq ha hw).trans hg
    have hrecorded := State.recordSegment_of_segment hsegment reason
    have hattempt : ((s.recordSegment c reason).chan c).attempt = some a := by rw [hrecorded]; simp [ha]
    have hchan : (s.recordSegment c reason).chan c =
        { s.chan c with heat := some (s.endedHeat g reason w) } := by rw [hrecorded]; simp [hw]
    refine ⟨s.recordSegment c reason, meteredEnergy s.draws g reason, ?_, fun hreason => meteredEnergy_le hreason _ g,
      fun target hreason htarget => ?_, fun next hnext => ?_, fun d hd => ?_, ?_⟩
    · exact hchan
    · subst hreason
      exact meteredEnergy_energy _ htarget
    · have hrecipe : (s.recordSegment c reason).recipe a.recipe = s.recipe a.recipe := by rw [hrecorded]; rfl
      rw [State.startSegment_eq (n := w.segment + 1) (g := next) hattempt (by rw [hrecipe]; exact hnext), hchan]
      have hnow : (s.recordSegment c reason).now = s.now := by rw [hrecorded]; rfl
      rw [hnow]
      rfl
    · rw [hrecorded]
      simp [hd]
    · have hblocks : (s.recordSegment c reason).oms = s.oms ∧ (s.recordSegment c reason).heads = s.heads ∧
          (s.recordSegment c reason).rings = s.rings ∧ (s.recordSegment c reason).arbiter = s.arbiter ∧
          (s.recordSegment c reason).recipes = s.recipes ∧ (s.recordSegment c reason).units = s.units ∧
          (s.recordSegment c reason).cabinet = s.cabinet ∧ (s.recordSegment c reason).faults = s.faults ∧
          (s.recordSegment c reason).ports = s.ports := by
        rw [hrecorded]
        exact ⟨rfl, rfl, rfl, rfl, rfl, rfl, rfl, rfl, rfl⟩
      obtain ⟨h1, h2, h3, h4, h5, h6, h7, h8, h9⟩ := hblocks
      refine ⟨h1, h2, h3, h4, h5, h6, h7, h8, h9, ?_⟩
      rw [State.segmentEnd_eq ha hw hg]
      simp only [State.judged_iff]

/-! ### ACK_RESULTS (R125, R126) -/

theorem ackResultsBody_codes {n : Nat} (hlow : 1 ≤ n) (hhigh : n ≤ 585) (p : Port) (l : Lane) (s : State) :
    ackResultsBody p (be1 (laneNum l) ++ be2 n) s =
      need (s.isReader p l) .notReader (need (decide (n ≤ (s.ring l).stored)) .range
        (.ok (s.acknowledge l n, ackAnswer ((s.acknowledge l n).ring l)))) := by
  have hlane : laneOfByte (byteAt (be1 (laneNum l) ++ be2 n) 0) = some l := by cases l <;> rfl
  have hcount : pairAt (be1 (laneNum l) ++ be2 n) 1 = n := toNat_ofNat_pair (by omega)
  simp only [ackResultsBody, hlane, hcount, decide_eq_true hlow, decide_eq_true hhigh, Bool.and_self, need_true]

theorem State.removeOldest_eq (s : State) (l : Lane) (n : Nat) :
    s.removeOldest l n =
      (s.setRing l { s.ring l with records := (s.ring l).records.drop n }).setUnit (readerPort l (s.ring l).reader)
        { s.unit (readerPort l (s.ring l).reader) with
          results := if (s.ring l).records.length ≤ n then
              (s.unit (readerPort l (s.ring l).reader)).results.set l false
            else (s.unit (readerPort l (s.ring l).reader)).results } := by
  unfold State.removeOldest
  dsimp only
  have hempty : (((s.modRing l fun r => { r with records := r.records.drop n }).ring l).records.isEmpty = true) ↔
      (s.ring l).records.length ≤ n := by
    simp [List.drop_eq_nil_iff]
  by_cases hn : (s.ring l).records.length ≤ n
  · rw [if_pos (hempty.mpr hn), if_pos hn]
    rfl
  · rw [if_neg (hn ∘ hempty.mp), if_neg hn]
    exact (State.setUnit_self _ _).symm

/-- Settles O46: the oldest records leave, and their ring's reader is told where it is empty now. -/
theorem acknowledgedRecordsLeaveTheRing : Obligations.AcknowledgedRecordsLeaveTheRing := by
  intro p l n tag s hlow hhigh
  dsimp only
  intro htakes
  have hbody := ackResultsBody_codes hlow hhigh p l s
  refine ⟨fun hother => ?_, fun hreader => ⟨fun hlt => ?_, fun hle => ?_⟩⟩
  · rw [show s.isReader p l = false from beq_eq_false_iff_ne.mpr hother, need_false] at hbody
    exact serveAny_refused htakes hbody
  · rw [show s.isReader p l = true from beq_iff_eq.mpr hreader, need_true,
      decide_eq_false (show ¬ n ≤ (s.ring l).stored from Nat.not_le.mpr hlt), need_false] at hbody
    exact serveAny_refused htakes hbody
  · rw [show s.isReader p l = true from beq_iff_eq.mpr hreader, need_true,
      decide_eq_true (show n ≤ (s.ring l).stored from hle), need_true] at hbody
    have hremoved := s.removeOldest_eq l n
    rw [← hreader] at hremoved
    refine ⟨s.removeOldest l n, serveAny_accepted htakes hbody, ?_, ?_, fun q hq => ?_, fun m hm => ?_, ?_⟩
    · rw [hremoved]
      simp
    · rw [hremoved]
      have hiff : (s.ring l).records.length ≤ n ↔ (s.ring l).records.length = n := by omega
      simp only [State.unit_setUnit, if_true, hiff]
      split <;> simp
    · rw [hremoved]
      simp [hq]
    · rw [hremoved]
      simp [hm]
    · rw [hremoved]
      simp

/-! ### Cabinet inputs (R133) -/

theorem FaultControl.alarm_setAlarm (f : FaultControl) (i : CabinetInput) (b : Bool) : (f.setAlarm i b).alarm i = b := by
  cases i <;> rfl

theorem exec_cabinetInputChange_of_ne {s : State} {i : CabinetInput} {alarm : Bool} (h : s.faults.alarm i ≠ alarm) :
    exec (.cabinetInputChange i alarm) s =
      .next (if alarm then (s.setFaults (s.faults.setAlarm i alarm)).inputCause i
        else s.setFaults (s.faults.setAlarm i alarm)) := if_neg h

theorem State.quenchCause_unconfigured {s : State} (hmode : s.mode = .unconfigured) (e : FaultEntry) :
    s.quenchCause e = s := by
  simp only [State.quenchCause, hmode]

theorem State.quenchCause_quenched {s : State} (hmode : s.mode = .quenched) (e : FaultEntry) :
    s.quenchCause e = s.fillLogs e true := by
  simp only [State.quenchCause, hmode]

theorem State.quenchCause_working {s : State} (hsetup : s.mode ≠ .unconfigured) (hquench : s.mode ≠ .quenched)
    (e : FaultEntry) : s.quenchCause e = s.quench e := by
  cases hmode : s.mode with
  | unconfigured => exact absurd hmode hsetup
  | quenched => exact absurd hmode hquench
  | settling | live | proof => simp only [State.quenchCause, hmode]

/-- Settles O49: a change into alarm is a quench cause, taken by the mode. -/
theorem cabinetInputsAreTakenByMode : Obligations.CabinetInputsAreTakenByMode := by
  intro i s e stored
  refine ⟨fun alarm hsame => if_pos hsame, fun hon => ?_, fun hoff => ?_, s.faults.alarm_setAlarm i⟩
  · exact exec_cabinetInputChange_of_ne (by rw [hon]; decide)
  · have hentry : (stored true).faultEntry (inputClass i) none none = e := by
      simp only [e]
      cases i <;> rfl
    have hexec : exec (.cabinetInputChange i true) s = .next ((stored true).quenchCause e) := by
      rw [exec_cabinetInputChange_of_ne (by rw [hoff]; decide), if_pos rfl, ← hentry]
      rfl
    have hmode : s.mode = (stored true).mode := rfl
    rw [hexec, hmode]
    generalize stored true = t
    exact ⟨fun hmode => congrArg _ (State.quenchCause_unconfigured hmode e),
      fun hmode => congrArg _ (State.quenchCause_quenched hmode e),
      fun hsetup hquench => congrArg _ (State.quenchCause_working hsetup hquench e)⟩

end Sys2Proof.Machine
end

section
/-! PROOF. The completion of an order and the near-done test in closed form (R11, R12, R16), the withdrawal of a POSTED
order (R21), and the winding down that DISCARD, ABORT_ORDER and the deadline share (R14, R17, R19). -/

namespace Sys2Proof.Machine

/-! ### A record that joins its ring -/

section
variable (s : State) (l : Lane) (rec : Record)

theorem State.ring_writeRecord (m : Lane) : (s.writeRecord l rec).ring m =
    if m = l then { s.ring l with
      records := (s.ring l).records ++ [rec], reserved := (s.ring l).reserved - rec.size } else s.ring m := by
  rw [State.writeRecord_eq, (State.reads_setUnit _ _ _).2.2.2.2.1, State.ring_setRing]

/-- A record changes the results mark of one unit, its ring's reader's. -/
theorem State.unit_writeRecord (q : Port) : (s.writeRecord l rec).unit q =
    { s.unit q with
      results := if q = readerPort l (s.ring l).reader then s.marksAfter l else (s.unit q).results } := by
  rw [State.writeRecord_eq, State.unit_setUnit]
  split
  · rename_i hq; rw [hq]
  · rfl

theorem State.writeRecord_blocks : (s.writeRecord l rec).pending = s.pending ∧ (s.writeRecord l rec).ports = s.ports ∧
    (s.writeRecord l rec).oms = s.oms ∧ (s.writeRecord l rec).recipes = s.recipes ∧
    (s.writeRecord l rec).bindings = s.bindings ∧ (s.writeRecord l rec).family = s.family ∧
    (s.writeRecord l rec).defaults = s.defaults ∧ (s.writeRecord l rec).heads = s.heads ∧
    (s.writeRecord l rec).arbiter = s.arbiter ∧ (s.writeRecord l rec).channels = s.channels ∧
    (s.writeRecord l rec).faults = s.faults ∧ (s.writeRecord l rec).cabinet = s.cabinet ∧
    (s.writeRecord l rec).draws = s.draws ∧ (s.writeRecord l rec).grants = s.grants := by
  rw [State.writeRecord_eq]
  simp

theorem State.ring_appendRecord (m : Lane) : (s.appendRecord l rec).ring m =
    if m = l then { s.ring l with records := (s.ring l).records ++ [rec] } else s.ring m := by
  rw [State.appendRecord_eq, (State.reads_setUnit _ _ _).2.2.2.2.1, State.ring_setRing]

theorem State.appendRecord_blocks : (s.appendRecord l rec).ports = s.ports ∧ (s.appendRecord l rec).oms = s.oms ∧
    (s.appendRecord l rec).recipes = s.recipes ∧ (s.appendRecord l rec).heads = s.heads ∧
    (s.appendRecord l rec).arbiter = s.arbiter ∧ (s.appendRecord l rec).channels = s.channels ∧
    (s.appendRecord l rec).faults = s.faults ∧ (s.appendRecord l rec).cabinet = s.cabinet := by
  rw [State.appendRecord_eq]
  simp
end

/-! ### A slot that becomes FREE (R12, R21) -/

section
variable (s : State) (l : Lane) (k : SlotId) (o : Order)

theorem State.freeSlot_eq : s.freeSlot l k o = ((s.setSlot l k none).dropRefs o.recipes).setUnit (lanePort l)
    { s.unit (lanePort l) with
      orderDone := some (orderContext l k o), slotFree := some (slotContext l k), pollMark := false } := by
  unfold State.freeSlot State.post
  cases l <;> rfl

theorem State.order_freeSlot (m : Lane) (n : SlotId) :
    (s.freeSlot l k o).order m n = if m = l ∧ n = k then none else s.order m n := by
  rw [State.freeSlot_eq, (State.reads_setUnit _ _ _).2.2.2.2.2.1, (State.reads_dropRefs _ _).2.2.2.2.2.2.1,
    State.order_setSlot]

theorem State.om_freeSlot (m : Lane) : (s.freeSlot l k o).om m =
    if m = l then { s.om l with slots := (s.om l).slots.set k none } else s.om m := by
  rw [State.freeSlot_eq, (State.reads_setUnit _ _ _).2.1, (State.reads_dropRefs _ _).2.1, State.om_setSlot]

theorem State.recipes_freeSlot (i : RecipeId) : (s.freeSlot l k o).recipes.get i =
    { s.recipes.get i with refs := (s.recipes.get i).refs - if i ∈ o.recipes then 1 else 0 } := by
  rw [State.freeSlot_eq, State.setUnit_recipes, State.recipes_dropRefs]
  rfl

theorem State.unit_freeSlot (q : Port) : (s.freeSlot l k o).unit q =
    if q = lanePort l then { s.unit (lanePort l) with
      orderDone := some (orderContext l k o), slotFree := some (slotContext l k), pollMark := false }
    else s.unit q := by
  rw [State.freeSlot_eq, State.unit_setUnit]
  rfl

theorem State.freeSlot_blocks : (s.freeSlot l k o).rings = s.rings ∧ (s.freeSlot l k o).heads = s.heads ∧
    (s.freeSlot l k o).channels = s.channels ∧ (s.freeSlot l k o).arbiter = s.arbiter ∧
    (s.freeSlot l k o).faults = s.faults ∧ (s.freeSlot l k o).cabinet = s.cabinet ∧
    (s.freeSlot l k o).ports = s.ports := by
  rw [State.freeSlot_eq]
  exact ⟨rfl, rfl, rfl, rfl, rfl, rfl, rfl⟩

/-! ### The completion (R12) -/

variable (kind : CompletionKind)

theorem State.order_finishOrder (m : Lane) (n : SlotId) :
    (s.finishOrder l k o kind).order m n = if m = l ∧ n = k then none else s.order m n := by
  unfold State.finishOrder
  dsimp only
  rw [State.order_freeSlot, State.reportHalted, State.modUnit_eq, (State.reads_setUnit _ _ _).2.2.2.2.2.1,
    State.modOm_eq, State.order_setOm]
  have hslots : ∀ m' n', (s.writeRecord l (.completion (s.completionRecord l k o kind))).order m' n' = s.order m' n' :=
    fun m' n' => State.order_congr (s.writeRecord_oms l _) m' n'
  simp only [hslots]
  by_cases hm : m = l
  · subst hm
    simp only [if_true]
    exact congrArg (ite _ none) (hslots m n)
  · simp [hm]

theorem State.om_finishOrder (m : Lane) : (s.finishOrder l k o kind).om m =
    if m = l then { s.om l with slots := (s.om l).slots.set k none, deadline := none, halted := [] } else s.om m := by
  unfold State.finishOrder
  dsimp only
  have hom : ∀ m', (s.writeRecord l (.completion (s.completionRecord l k o kind))).om m' = s.om m' :=
    fun m' => State.om_congr (s.writeRecord_oms l _) m'
  rw [State.om_freeSlot, State.reportHalted]
  simp only [State.modUnit_eq, State.reads_setUnit, State.modOm_eq, State.om_setOm, hom, if_true]
  split <;> rfl

theorem State.ring_finishOrder (m : Lane) : (s.finishOrder l k o kind).ring m =
    if m = l then { s.ring l with
      records := (s.ring l).records ++ [.completion (s.completionRecord l k o kind)]
      reserved := (s.ring l).reserved - (6 + o.joints.length) } else s.ring m := by
  have hrings : (s.finishOrder l k o kind).ring m =
      (s.writeRecord l (.completion (s.completionRecord l k o kind))).ring m :=
    State.ring_congr (State.freeSlot_blocks _ l k o).1 m
  rw [hrings, State.ring_writeRecord]
  simp [Record.size, State.completionRecord]

theorem State.recipes_finishOrder (i : RecipeId) : (s.finishOrder l k o kind).recipes.get i =
    { s.recipes.get i with refs := (s.recipes.get i).refs - if i ∈ o.recipes then 1 else 0 } := by
  unfold State.finishOrder
  dsimp only
  rw [State.recipes_freeSlot, State.reportHalted, State.modUnit_eq, State.setUnit_recipes, State.modOm_eq,
    State.setOm_recipes, (s.writeRecord_blocks l _).2.2.2.1]

theorem State.unit_finishOrder (q : Port) : (s.finishOrder l k o kind).unit q =
    if q = lanePort l then
      { (s.writeRecord l (.completion (s.completionRecord l k o kind))).unit q with
        halted := false, orderDone := some (orderContext l k o), slotFree := some (slotContext l k), pollMark := false }
    else (s.writeRecord l (.completion (s.completionRecord l k o kind))).unit q := by
  unfold State.finishOrder
  dsimp only
  rw [State.unit_freeSlot, State.reportHalted]
  simp only [State.modUnit_eq, State.unit_setUnit, State.modOm_eq, State.reads_setOm, if_true]
  by_cases hq : q = lanePort l <;> simp [hq]

theorem State.finishOrder_blocks : (s.finishOrder l k o kind).heads = s.heads ∧
    (s.finishOrder l k o kind).channels = s.channels ∧ (s.finishOrder l k o kind).arbiter = s.arbiter ∧
    (s.finishOrder l k o kind).faults = s.faults ∧ (s.finishOrder l k o kind).cabinet = s.cabinet ∧
    (s.finishOrder l k o kind).ports = s.ports := by
  unfold State.finishOrder
  dsimp only
  obtain ⟨-, h2, h3, h4, h5, h6, h7⟩ := State.freeSlot_blocks (((s.writeRecord l (.completion
    (s.completionRecord l k o kind))).modOm l fun om => { om with deadline := none, halted := [] }).reportHalted l
      false) l k o
  rw [h2, h3, h4, h5, h6, h7]
  simp [State.reportHalted, s.writeRecord_blocks l]
end

theorem completionCheck_done {s : State} {l : Lane} {k : SlotId} {o : Order} (hactive : s.active l = some (k, o))
    (hdone : o.allDone = true) :
    s.completionCheck l = (s.finishOrder l k o o.kind).dropCandidate.tryActivation l := by
  simp only [State.completionCheck, hactive, hdone, if_true]

theorem completionCheck_of_open {s : State} {l : Lane} {k : SlotId} {o : Order} (hactive : s.active l = some (k, o))
    (hopen : o.allDone = false) : s.completionCheck l = s := by
  simp only [State.completionCheck, hactive, hopen, Bool.false_eq_true, if_false]

theorem completionCheck_idle {s : State} {l : Lane} (hactive : s.active l = none) : s.completionCheck l = s := by
  simp only [State.completionCheck, hactive]

/-- Settles O18: the completion is the finishing of the order by its flags' kind. -/
theorem completionFreesSlotWithRecord : Obligations.CompletionFreesSlotWithRecord := by
  refine fun l k o s hactive => ⟨completionCheck_of_open hactive, fun hdone =>
    ⟨s.finishOrder l k o o.kind, s.completionRecord l k o o.kind, completionCheck_done hactive hdone, rfl, rfl, rfl, rfl,
      rfl, rfl, rfl, List.length_map _, fun i j out hj hout => ?_, ?_, ?_, ?_, ?_, ?_, s.order_finishOrder l k o _,
      s.recipes_finishOrder l k o _, ?_, ?_, ?_, ?_, s.finishOrder_blocks l k o _⟩⟩
  · rw [State.completionRecord, List.getElem?_map, hj, Option.map_some, hout]
    rfl
  · rw [State.ring_finishOrder, if_pos rfl]
  · rw [State.ring_finishOrder, if_pos rfl]
  · rw [State.om_finishOrder, if_pos rfl]
  · rw [State.om_finishOrder, if_pos rfl]
  · rw [State.om_finishOrder, if_pos rfl]
  · rw [State.unit_finishOrder, if_pos rfl]
    rfl
  · rw [State.unit_finishOrder, if_pos rfl]
    rfl
  · rw [State.unit_finishOrder, if_pos rfl]
  · rw [State.unit_finishOrder, if_pos rfl]

/-! ### The near-done test (R16) -/

theorem nearDoneCount_le_iff (t n c : Nat) : nearDoneCount t n ≤ c ↔ t * n ≤ 16 * c := by
  unfold nearDoneCount
  omega

/-- The condition of the near-done test on the order given. -/
def State.nearDoneDue (s : State) (l : Lane) (o : Order) : Prop :=
  0 < (s.om l).threshold ∧ o.nearDone = false ∧
    (s.om l).threshold * o.joints.length ≤ 16 * (o.joints.filter fun j => j.outcome.isSome).length

theorem State.nearDoneTest_due {s : State} {l : Lane} {k : SlotId} {o : Order} (hactive : s.active l = some (k, o))
    (hdue : s.nearDoneDue l o) : s.nearDoneTest l =
      (s.setSlot l k (some { o with nearDone := true })).post (lanePort l) .nearDone (orderContext l k o) := by
  obtain ⟨hthreshold, hflag, hcount⟩ := hdue
  unfold State.nearDoneTest
  rw [hactive]
  dsimp only
  rw [if_pos ⟨hthreshold, hflag, (nearDoneCount_le_iff _ _ _).mpr hcount⟩,
    State.modOrder_of_order (State.order_of_active hactive).1]

theorem State.nearDoneTest_not_due {s : State} {l : Lane} {k : SlotId} {o : Order}
    (hactive : s.active l = some (k, o)) (hnot : ¬ s.nearDoneDue l o) : s.nearDoneTest l = s := by
  unfold State.nearDoneTest
  rw [hactive]
  dsimp only
  rw [if_neg]
  rintro ⟨hthreshold, hflag, hcount⟩
  exact hnot ⟨hthreshold, hflag, (nearDoneCount_le_iff _ _ _).mp hcount⟩

/-- Settles O19. -/
theorem nearDoneIsPostedOnce : Obligations.NearDoneIsPostedOnce := fun _ _ _ _ hactive =>
  ⟨State.nearDoneTest_due hactive, State.nearDoneTest_not_due hactive⟩

/-! ### Withdrawal (R18, R21) -/

section
variable {l : Lane} {k : SlotId} {s : State} (hsetup : s.mode ≠ .unconfigured)
include hsetup

theorem abortOrderBody_free (ho : s.order l k = none) : abortOrderBody (be1 k.val) l s = .error .noActive := by
  simp only [abortOrderBody, byteAt_be1_val k (by decide), k.isLt, decide_true, need_true,
    needSetup_of_ne_unconfigured hsetup, Fin.ofNat_val_eq_self, ho]

theorem abortOrderBody_posted {o : Order} (ho : s.order l k = some o) (hposted : o.state = .posted) :
    abortOrderBody (be1 k.val) l s =
      need (decide (o.recordSize ≤ (s.ring l).free)) .ringFull (.ok (s.withdraw l k o, [])) := by
  simp only [abortOrderBody, byteAt_be1_val k (by decide), k.isLt, decide_true, need_true,
    needSetup_of_ne_unconfigured hsetup, Fin.ofNat_val_eq_self, ho, hposted, if_true]

theorem abortOrderBody_active {o : Order} (ho : s.order l k = some o) (hactive : o.state ≠ .posted) :
    abortOrderBody (be1 k.val) l s = .ok (s.abortOrder l k o, []) := by
  simp only [abortOrderBody, byteAt_be1_val k (by decide), k.isLt, decide_true, need_true,
    needSetup_of_ne_unconfigured hsetup, Fin.ofNat_val_eq_self, ho, hactive, if_false]
end

/-- A withdrawn order's lane before the next order is tried. -/
def State.withdrawn (s : State) (l : Lane) (k : SlotId) (o : Order) : State :=
  ((s.appendRecord l (.completion (s.withdrawnRecord l k o))).modOm l fun om =>
    { om with released := if s.isReleased l k then om.released - 1 else om.released }).freeSlot l k o

theorem State.withdraw_eq (s : State) (l : Lane) (k : SlotId) (o : Order) :
    s.withdraw l k o = ((s.withdrawn l k o).tryActivation l).arbitrate := rfl

section
variable (s : State) (l : Lane) (k : SlotId) (o : Order)

theorem State.om_withdrawn : (s.withdrawn l k o).om l = { s.om l with
    slots := (s.om l).slots.set k none
    released := if s.isReleased l k then (s.om l).released - 1 else (s.om l).released } := by
  have hom : (s.appendRecord l (.completion (s.withdrawnRecord l k o))).om l = s.om l :=
    State.om_congr (s.appendRecord_blocks l _).2.1 l
  rw [State.withdrawn, State.om_freeSlot, if_pos rfl]
  simp only [State.modOm_eq, State.om_setOm, if_true, hom]

theorem State.order_withdrawn (m : Lane) (n : SlotId) :
    (s.withdrawn l k o).order m n = if m = l ∧ n = k then none else s.order m n := by
  have horder : ∀ m' n', (s.appendRecord l (.completion (s.withdrawnRecord l k o))).order m' n' = s.order m' n' :=
    State.order_congr (s.appendRecord_blocks l _).2.1
  rw [State.withdrawn, State.order_freeSlot, State.modOm_eq, State.order_setOm]
  by_cases hm : m = l
  · subst hm
    simp only [if_true]
    exact congrArg (ite _ none) (horder m n)
  · simp [hm, horder]

theorem State.ring_withdrawn : (s.withdrawn l k o).ring l =
    { s.ring l with records := (s.ring l).records ++ [.completion (s.withdrawnRecord l k o)] } := by
  rw [State.withdrawn, State.ring_congr (State.freeSlot_blocks _ l k o).1 l, State.modOm_eq,
    (State.reads_setOm _ _ _).2.2.2.1, State.ring_appendRecord, if_pos rfl]

theorem State.withdrawn_blocks : (s.withdrawn l k o).heads = s.heads ∧ (s.withdrawn l k o).channels = s.channels ∧
    (s.withdrawn l k o).arbiter = s.arbiter ∧ (s.withdrawn l k o).faults = s.faults ∧
    (s.withdrawn l k o).cabinet = s.cabinet ∧ (s.withdrawn l k o).ports = s.ports := by
  obtain ⟨-, h2, h3, h4, h5, h6, h7⟩ := State.freeSlot_blocks ((s.appendRecord l (.completion
    (s.withdrawnRecord l k o))).modOm l fun om =>
      { om with released := if s.isReleased l k then om.released - 1 else om.released }) l k o
  rw [State.withdrawn, h2, h3, h4, h5, h6, h7]
  simp [s.appendRecord_blocks l]
end

/-- Settles O22: a POSTED order whose record fits is withdrawn. -/
theorem withdrawalRecordsPostedOrder : Obligations.WithdrawalRecordsPostedOrder := by
  intro p l tag k s hport htakes hsetup
  dsimp only
  refine ⟨fun hfree => serveLane_refused hport htakes (abortOrderBody_free hsetup hfree), fun o ho hposted =>
    ⟨fun hfull => ?_, fun hfits => ⟨s.withdrawn l k o, ?_, ?_, ?_, ?_, ?_, ?_, s.order_withdrawn l k o, fun i => ?_, ?_,
      ?_, s.withdrawn_blocks l k o⟩⟩⟩
  · have hbody := abortOrderBody_posted hsetup ho hposted
    rw [decide_eq_false (show ¬ o.recordSize ≤ (s.ring l).free from Nat.not_le.mpr hfull), need_false] at hbody
    exact serveLane_refused hport htakes hbody
  · have hbody := abortOrderBody_posted hsetup ho hposted
    rw [decide_eq_true (show o.recordSize ≤ (s.ring l).free from hfits), need_true, State.withdraw_eq] at hbody
    exact serveLane_accepted hport htakes hbody
  · rw [State.ring_withdrawn]
    rfl
  · rw [State.ring_withdrawn]
  · rw [State.ring_withdrawn]
  · rw [State.om_withdrawn]
    rfl
  · rw [State.om_withdrawn]
  · rw [State.withdrawn, State.recipes_freeSlot, State.modOm_eq, State.setOm_recipes,
      (s.appendRecord_blocks l _).2.2.1]
  · rw [State.withdrawn, State.unit_freeSlot, if_pos rfl]
    rfl
  · rw [State.withdrawn, State.unit_freeSlot, if_pos rfl]
    rfl

/-! ### Winding down (R14, R17, R19) -/

theorem windDown_eq_settledJoint (out : JointOutcome) (j : Joint) : j.windDown out = settledJoint out j := by
  unfold Joint.windDown settledJoint Joint.waiting Joint.coolingOrHalted Joint.giveOutcome
  cases j.state <;> rfl

/-- The order as it winds down. -/
def Order.woundDown (o : Order) (out : JointOutcome) : Order :=
  { o.unhalted with joints := o.joints.map (settledJoint out) }

theorem Order.woundDown_eq {o : Order} (hstate : o.state ≠ .posted) (out : JointOutcome) :
    o.woundDown out = { o with state := .running, joints := o.joints.map (settledJoint out) } := by
  rw [Order.woundDown, Order.unhalted_eq]
  cases hs : o.state with
  | posted => exact absurd hs hstate
  | running | halted => rfl

/-- Winding down in closed form: the order, the deadline and the list, the report to the lane port and the stays. -/
theorem State.windDown_eq {s : State} {l : Lane} {k : SlotId} {o : Order} (ho : s.order l k = some o)
    (out : JointOutcome) :
    s.windDown l k out =
      (((s.setOm l { s.om l with slots := (s.om l).slots.set k (some (o.woundDown out)), deadline := none, halted := [] })
        ).setUnit (lanePort l) { s.unit (lanePort l) with
          halted := if o.state = .halted then false else (s.unit (lanePort l)).halted }).liftStays (s.ofLane l) := by
  unfold State.windDown State.clearHalted
  dsimp only
  have hmap : s.mapJoints l k (Joint.windDown out) =
      s.setSlot l k (some { o with joints := o.joints.map (settledJoint out) }) := by
    rw [State.mapJoints_of_order ho, funext (windDown_eq_settledJoint out)]
  rw [hmap]
  have hleave := State.leaveHalted_of_nil (l := l) (k := k) (o := { o with joints := o.joints.map (settledJoint out) })
    (s := (((s.setSlot l k (some { o with joints := o.joints.map (settledJoint out) })).modOm l fun om =>
      { om with deadline := none }).modOm l fun om => { om with halted := [] }))
    (by simp) (by simp [State.setSlot])
  rw [hleave]
  have hunhalted : ({ o with joints := o.joints.map (settledJoint out) } : Order).unhalted = o.woundDown out := by
    rw [Order.woundDown, Order.unhalted_eq, Order.unhalted_eq]
  rw [hunhalted]
  refine congrArg (fun t : State => t.liftStays (s.ofLane l)) ?_
  cases l <;> simp [State.setSlot, State.setOm, State.om, LaneTbl.set, LaneTbl.get, Vector.set_set, State.setUnit,
    State.unit]

end Sys2Proof.Machine
end

section
/-! PROOF. DISCARD, the deadline, the entry to LIVE, PROOF and the loops over channels, LANE_RESET (R14, R17, R25, R26,
R83, R154 to R157). -/

namespace Sys2Proof.Machine

/-! ### What winding down leaves in each block -/

section
variable {s : State} {l : Lane} {k : SlotId} {o : Order} (ho : s.order l k = some o) (hstate : o.state ≠ .posted)
  (out : JointOutcome)
include ho

theorem State.om_windDown (m : Lane) : (s.windDown l k out).om m = if m = l then
    { s.om l with slots := (s.om l).slots.set k (some (o.woundDown out)), deadline := none, halted := [] }
    else s.om m := by
  rw [State.windDown_eq ho]
  exact State.om_setOm ..

theorem State.unit_windDown (q : Port) : (s.windDown l k out).unit q = if q = lanePort l then
    { s.unit (lanePort l) with
      halted := if o.state = .halted then false else (s.unit (lanePort l)).halted }
    else s.unit q := by
  rw [State.windDown_eq ho]
  exact State.unit_setUnit ..

theorem State.stay_windDown (c : ChannelId) :
    (s.windDown l k out).stay c = (s.stay c).filter fun h => (s.head h).lane != some l := by
  rw [State.windDown_eq ho, State.stay_liftStays]
  rfl

theorem State.windDown_blocks : (s.windDown l k out).heads = s.heads ∧ (s.windDown l k out).channels = s.channels ∧
    (s.windDown l k out).rings = s.rings ∧ (s.windDown l k out).recipes = s.recipes ∧
    (s.windDown l k out).faults = s.faults ∧ (s.windDown l k out).cabinet = s.cabinet ∧
    (s.windDown l k out).ports = s.ports := by
  rw [State.windDown_eq ho]
  exact ⟨rfl, rfl, rfl, rfl, rfl, rfl, rfl⟩

theorem State.arbiter_windDown :
    (s.windDown l k out).arbiter = { s.arbiter with stays := (s.windDown l k out).arbiter.stays } := by
  rw [State.windDown_eq ho]
  rfl

include hstate

theorem State.order_windDown (m : Lane) (n : SlotId) : (s.windDown l k out).order m n = if m = l ∧ n = k then
    some { o with state := .running, joints := o.joints.map (settledJoint out) } else s.order m n := by
  rw [← Order.woundDown_eq hstate, State.order, State.om_windDown ho]
  by_cases hm : m = l
  · subst hm
    simp only [if_true, true_and, Vector.get_set_fin]
    split <;> rfl
  · simp only [hm, if_false, false_and]
    rfl
end

theorem lanePort_of_portLane {p : Port} {l : Lane} (h : portLane p = some l) : p = lanePort l := by
  cases p <;> cases h <;> rfl

/-! ### DISCARD (R17) -/

/-- The state of an accepted DISCARD before the completion check. -/
def State.discarded (s : State) (l : Lane) (k : SlotId) (o : Order) : State :=
  (s.setSlot l k (some { o with discard := true })).windDown l k .notRun

theorem discardBody_idle {l : Lane} {s : State} (hsetup : s.mode ≠ .unconfigured) (hquench : s.mode ≠ .quenched)
    (hactive : s.active l = none) : discardBody l s = .error .noActive := by
  simp only [discardBody, needMode_of_ne hsetup hquench, hactive]

theorem discardBody_active {l : Lane} {k : SlotId} {o : Order} {s : State} (hsetup : s.mode ≠ .unconfigured)
    (hquench : s.mode ≠ .quenched) (hactive : s.active l = some (k, o)) :
    discardBody l s = .ok (s.discardOrder l k o, []) := by
  simp only [discardBody, needMode_of_ne hsetup hquench, hactive]

theorem State.discardOrder_again {s : State} {l : Lane} {k : SlotId} {o : Order} (h : o.discard = true) :
    s.discardOrder l k o = s := if_pos h

theorem State.discardOrder_first {s : State} {l : Lane} {k : SlotId} {o : Order} (ho : s.order l k = some o)
    (h : o.discard = false) : s.discardOrder l k o = ((s.discarded l k o).completionCheck l).arbitrate := by
  unfold State.discardOrder
  rw [if_neg (by simp [h]), State.modOrder_of_order ho]
  rfl

/-- Settles O20: a first DISCARD sets the flag and winds the order down. -/
theorem discardWindsOrderDown : Obligations.DiscardWindsOrderDown := by
  refine fun p l tag s hport htakes hsetup hquench =>
    ⟨fun hidle => serveLane_refused hport htakes (discardBody_idle hsetup hquench hidle), fun k o hactive => ?_⟩
  have hbody := discardBody_active hsetup hquench hactive
  obtain ⟨ho, hstate⟩ := State.order_of_active hactive
  refine ⟨fun hflag => ?_, fun hflag => ⟨s.discarded l k o, ?_, fun m n => ?_, ?_, ?_, ?_, fun q => ?_, ?_, ?_⟩⟩
  · rw [State.discardOrder_again hflag] at hbody
    exact serveLane_accepted hport htakes hbody
  · rw [State.discardOrder_first ho hflag] at hbody
    exact serveLane_accepted hport htakes hbody
  all_goals
    have hflagged : (s.setSlot l k (some { o with discard := true })).order l k = some { o with discard := true } := by
      rw [State.order_setSlot, if_pos ⟨rfl, rfl⟩]
  · rw [State.discarded, State.order_windDown hflagged hstate, State.order_setSlot]
    split <;> rfl
  · rw [State.discarded, State.om_windDown hflagged, if_pos rfl]
  · rw [State.discarded, State.om_windDown hflagged, if_pos rfl]
  · rw [State.discarded, State.om_windDown hflagged, if_pos rfl, State.om_setSlot, if_pos rfl]
  · rw [State.discarded, State.unit_windDown hflagged, lanePort_of_portLane hport]
    by_cases hq : q = lanePort l
    · subst hq
      by_cases hhalted : o.state = .halted <;> simp [hhalted]
    · simp [hq]
  · exact fun c => State.stay_windDown hflagged .notRun c
  · exact State.windDown_blocks hflagged .notRun

/-! ### The deadline (R13, R14) -/

/-- The state of a deadline's expiry before the near-done test. -/
def State.lateOrder (s : State) (l : Lane) (k : SlotId) (o : Order) : State :=
  ((s.setSlot l k (some { o with late := true })).windDown l k .skippedLate).post (lanePort l) .orderLate
    (orderContext l k o)

theorem State.takeDeadline_active {s : State} {l : Lane} {k : SlotId} {o : Order} (hactive : s.active l = some (k, o)) :
    s.takeDeadline l = (((s.lateOrder l k o).nearDoneTest l).completionCheck l).arbitrate := by
  unfold State.takeDeadline
  rw [hactive]
  dsimp only
  rw [State.modOrder_of_order (State.order_of_active hactive).1]
  rfl

/-- Settles O25: the expiry sets the flag, winds the order down and posts ORDER_LATE. -/
theorem deadlineExpiryTreatsEveryJoint : Obligations.DeadlineExpiryTreatsEveryJoint := by
  refine fun l s => ⟨fun hnone => ?_, fun left k o hleft hactive => ?_⟩
  · change execDeadlineExpiry l s = _
    rw [execDeadlineExpiry, hnone]
  · have hexec : exec (.deadlineExpiry l) s = .next ((s.elapse left).takeDeadline l) := by
      change execDeadlineExpiry l s = _
      rw [execDeadlineExpiry, hleft]
    obtain ⟨-, hstate⟩ := State.order_of_active hactive
    have hactive' : (s.elapse left).active l = some (k, o) := (s.active_elapse left l).trans hactive
    have hlate : ((s.elapse left).setSlot l k (some { o with late := true })).order l k =
        some { o with late := true } := by
      rw [State.order_setSlot, if_pos ⟨rfl, rfl⟩]
    obtain ⟨hheads, hchannels, hrings, hrecipes, hfaults, hcabinet, hports⟩ :=
      State.windDown_blocks hlate .skippedLate
    dsimp only
    refine ⟨(s.elapse left).lateOrder l k o, ?_, fun m n => ?_, ?_, ?_, fun q => ?_, fun c => ?_, hheads, hchannels,
      hrings, hrecipes, hfaults, hcabinet, hports⟩
    · rw [hexec, State.takeDeadline_active hactive']
    · rw [State.lateOrder, State.post, State.modUnit_eq, (State.reads_setUnit _ _ _).2.2.2.2.2.1,
        State.order_windDown hlate hstate, State.order_setSlot, State.order_elapse]
      split <;> rfl
    · rw [State.lateOrder, State.post, State.modUnit_eq, (State.reads_setUnit _ _ _).2.1, State.om_windDown hlate,
        if_pos rfl]
    · rw [State.lateOrder, State.post, State.modUnit_eq, (State.reads_setUnit _ _ _).2.1, State.om_windDown hlate,
        if_pos rfl]
    · rw [State.lateOrder, State.post, State.modUnit_eq, State.unit_setUnit, State.unit_windDown hlate, if_pos rfl,
        State.unit_windDown hlate]
      by_cases hq : q = lanePort l
      · subst hq
        simp only [if_true]
        rfl
      · simp only [hq, if_false]
        rfl
    · have hstay := State.stay_windDown hlate .skippedLate c
      have hlane : ∀ h, (((s.elapse left).setSlot l k (some { o with late := true })).head h).lane = (s.head h).lane :=
        fun h => by rw [(State.reads_setSlot _ _ _ _).2.1, State.head_elapse]
      simp only [hlane] at hstay
      exact hstay

/-! ### The settling expiry (R154) -/

/-- The state of the entry to LIVE before the lanes try activation. -/
def State.goneLive (s : State) : State :=
  (((s.setCabinet s.cabinet.goLive).post .laneA .cabinetLive .none).post .laneB .cabinetLive .none).post
    .supervisor .cabinetLive .none

/-- Settles O55: LIVE is entered and told to the three ports. -/
theorem settlingExpiryEntersLive : Obligations.SettlingExpiryEntersLive := by
  refine fun s => ⟨fun hnone => ?_, fun left hleft => ?_⟩
  · change execSettlingExpiry s = _
    rw [execSettlingExpiry, hnone]
  · dsimp only
    refine ⟨(s.elapse left).goneLive, ?_, rfl, fun p => ?_, rfl, rfl, rfl, rfl, rfl, rfl, rfl, rfl⟩
    · change execSettlingExpiry s = _
      rw [execSettlingExpiry, hleft]
      rfl
    · cases p <;> rfl

/-! ### Loops over channels -/

/-- A loop whose steps act each on its own channel and take an amount from a count takes the sum. -/
theorem foldl_sub {f : State → ChannelId → State} {v : State → Nat} {w : State → ChannelId → Nat}
    (hv : ∀ t c, v (f t c) = v t - w t c) (hw : ∀ t c d, d ≠ c → w (f t c) d = w t d) {cs : List ChannelId}
    (hn : cs.Nodup) (s : State) : v (cs.foldl f s) = v s - (cs.map (w s)).sum := by
  induction cs generalizing s with
  | nil => rfl
  | cons c cs ih =>
    obtain ⟨hc, hn⟩ := List.nodup_cons.mp hn
    have hmap : cs.map (w (f s c)) = cs.map (w s) :=
      List.map_congr_left fun d hd => hw s c d fun e => hc (e ▸ hd)
    rw [List.foldl_cons, ih hn, hv, hmap, List.map_cons, List.sum_cons, Nat.sub_sub]

/-- A loop that unparks the channels of a kind: a head loses its connected channel where one of them leaves it. -/
theorem head_foldl_leave {f : State → ChannelId → State} {acts : ChannelRec → Bool}
    (hhead : ∀ t c h, (f t c).head h =
      if acts (t.chan c) then HeadRec.leave c (t.chan c).parked h (t.head h) else t.head h)
    (hchan : ∀ t c d, d ≠ c → (f t c).chan d = t.chan d) {cs : List ChannelId} (hn : cs.Nodup) (s : State)
    (h : HeadId) :
    ((∃ c ∈ cs, acts (s.chan c) = true ∧ (s.chan c).parked = some h ∧ (s.head h).connected = some c) →
      (cs.foldl f s).head h = { s.head h with connected := none }) ∧
    ((¬ ∃ c ∈ cs, acts (s.chan c) = true ∧ (s.chan c).parked = some h ∧ (s.head h).connected = some c) →
      (cs.foldl f s).head h = s.head h) := by
  induction cs generalizing s with
  | nil => exact ⟨fun ⟨c, hc, _⟩ => absurd hc List.not_mem_nil, fun _ => rfl⟩
  | cons c cs ih =>
    obtain ⟨hc, hn⟩ := List.nodup_cons.mp hn
    obtain ⟨ihleaves, ihstays⟩ := ih hn (f s c)
    have hother : ∀ d ∈ cs, (f s c).chan d = s.chan d := fun d hd => hchan s c d fun e => hc (e ▸ hd)
    rw [List.foldl_cons]
    by_cases hfirst : acts (s.chan c) = true ∧ (s.chan c).parked = some h ∧ (s.head h).connected = some c
    · have hleft : (f s c).head h = { s.head h with connected := none } := by
        rw [hhead, if_pos hfirst.1, HeadRec.leave, if_pos hfirst.2]
      have hend : (cs.foldl f (f s c)).head h = { s.head h with connected := none } := by
        rw [ihstays, hleft]
        rintro ⟨d, -, -, -, hconn⟩
        rw [hleft] at hconn
        cases hconn
      exact ⟨fun _ => hend, fun hno => absurd ⟨c, List.mem_cons_self, hfirst⟩ hno⟩
    · have hkept : (f s c).head h = s.head h := by
        rw [hhead]
        split
        · rename_i hacts
          rw [HeadRec.leave, if_neg fun both => hfirst ⟨hacts, both⟩]
        · rfl
      have hiff : (∃ d ∈ cs, acts ((f s c).chan d) = true ∧ ((f s c).chan d).parked = some h ∧
          ((f s c).head h).connected = some d) ↔
          ∃ d ∈ c :: cs, acts (s.chan d) = true ∧ (s.chan d).parked = some h ∧ (s.head h).connected = some d := by
        rw [hkept]
        constructor
        · rintro ⟨d, hd, hleaves⟩
          rw [hother d hd] at hleaves
          exact ⟨d, List.mem_cons_of_mem _ hd, hleaves⟩
        · rintro ⟨d, hd, hleaves⟩
          rcases List.mem_cons.mp hd with rfl | hd
          · exact absurd hleaves hfirst
          · exact ⟨d, hd, by rw [hother d hd]; exact hleaves⟩
      rw [hiff, hkept] at ihleaves
      rw [hiff, hkept] at ihstays
      exact ⟨ihleaves, ihstays⟩

/-! ### The idle pool (R83) -/

theorem State.head_setParked_none (s : State) (c : ChannelId) (h : HeadId) :
    (s.setParked c none).head h = HeadRec.leave c (s.chan c).parked h (s.head h) := by
  rw [State.unpark_eq, (State.reads_setChan _ _ _).2.2.1, State.head_mapHeads]

theorem State.head_unparkIdle (s : State) (c : ChannelId) (h : HeadId) : (s.unparkIdle c).head h =
    if (s.chan c).state == .idle then HeadRec.leave c (s.chan c).parked h (s.head h) else s.head h := by
  unfold State.unparkIdle
  by_cases hidle : (s.chan c).state = .idle
  · rw [if_pos hidle, if_pos (beq_iff_eq.mpr hidle), State.head_setParked_none]
  · rw [if_neg hidle, if_neg (fun e => hidle (beq_iff_eq.mp e))]

theorem State.chan_unparkIdle (s : State) (c d : ChannelId) : (s.unparkIdle c).chan d =
    if d = c then (if (s.chan c).state = .idle then { s.chan c with parked := none } else s.chan c) else s.chan d := by
  unfold State.unparkIdle
  by_cases hidle : (s.chan c).state = .idle
  · rw [if_pos hidle, if_pos hidle, State.chan_setParked]
  · rw [if_neg hidle, if_neg hidle]
    split
    · rename_i hd; rw [hd]
    · rfl

theorem nodup_allChannels : allChannels.Nodup := List.nodup_finRange 6

theorem mem_allChannels (c : ChannelId) : c ∈ allChannels := List.mem_finRange c

/-- A loop keeps what its steps keep. -/
theorem foldl_keeps {α : Sort*} {ι : Type*} {f : State → ι → State} {v : State → α} (hv : ∀ t c, v (f t c) = v t)
    (cs : List ι) (s : State) : v (cs.foldl f s) = v s := by
  induction cs generalizing s with
  | nil => rfl
  | cons c cs ih => exact (ih _).trans (hv s c)

/-- What unparking keeps: all but heads and channels. -/
theorem State.setParked_none_keeps {α : Sort*} (v : State → α) (hheads : ∀ (t : State) f, v (t.mapHeads f) = v t)
    (hchan : ∀ (t : State) c x, v (t.setChan c x) = v t) (s : State) (c : ChannelId) :
    v (s.setParked c none) = v s := by
  rw [State.unpark_eq]
  exact (hchan _ _ _).trans (hheads _ _)

theorem State.unparkIdle_keeps {α : Sort*} (v : State → α) (hheads : ∀ (t : State) f, v (t.mapHeads f) = v t)
    (hchan : ∀ (t : State) c x, v (t.setChan c x) = v t) (s : State) (c : ChannelId) : v (s.unparkIdle c) = v s := by
  unfold State.unparkIdle
  split
  · exact State.setParked_none_keeps v hheads hchan s c
  · rfl

theorem State.chan_unparkAll (s : State) (c : ChannelId) :
    s.unparkAll.chan c = if (s.chan c).state = .idle then { s.chan c with parked := none } else s.chan c := by
  have hfold := State.chan_foldl State.unparkIdle
    (fun r => if r.state = .idle then { r with parked := none } else r) State.chan_unparkIdle allChannels
    (List.nodup_finRange 6) s c
  rw [if_pos (show c ∈ allChannels from List.mem_finRange c)] at hfold
  unfold State.unparkAll
  generalize allChannels.foldl State.unparkIdle s = u at hfold ⊢
  exact hfold

theorem State.stay_unparkAll (s : State) (c : ChannelId) : s.unparkAll.stay c = none := by
  rw [State.unparkAll, State.stay_liftStays]
  cases (allChannels.foldl State.unparkIdle s).stay c <;> rfl

/-- A head's connected channel goes where its channel is unparked. -/
theorem State.head_unparkAll (s : State) (h : HeadId) :
    ((∃ c, (s.chan c).state = .idle ∧ (s.chan c).parked = some h ∧ (s.head h).connected = some c) →
      s.unparkAll.head h = { s.head h with connected := none }) ∧
    ((¬ ∃ c, (s.chan c).state = .idle ∧ (s.chan c).parked = some h ∧ (s.head h).connected = some c) →
      s.unparkAll.head h = s.head h) := by
  have hfold := head_foldl_leave (acts := fun r => r.state == .idle) State.head_unparkIdle
    (fun t c d hd => (t.chan_unparkIdle c d).trans (if_neg hd)) (List.nodup_finRange 6) s h
  simp only [List.mem_finRange, true_and, beq_iff_eq] at hfold
  unfold State.unparkAll
  unfold allChannels
  generalize (List.finRange 6).foldl State.unparkIdle s = u at hfold ⊢
  exact hfold

theorem State.unparkAll_keeps {α : Sort*} (v : State → α) (hheads : ∀ (t : State) f, v (t.mapHeads f) = v t)
    (hchan : ∀ (t : State) c x, v (t.setChan c x) = v t) (hstays : ∀ (t : State) w, v (t.liftStays w) = v t)
    (s : State) : v s.unparkAll = v s :=
  (hstays _ _).trans (foldl_keeps (State.unparkIdle_keeps v hheads hchan) allChannels s)

theorem State.unparkAll_blocks (s : State) : s.unparkAll.oms = s.oms ∧ s.unparkAll.rings = s.rings ∧
    s.unparkAll.recipes = s.recipes ∧ s.unparkAll.units = s.units ∧ s.unparkAll.faults = s.faults ∧
    s.unparkAll.ports = s.ports ∧ s.unparkAll.cabinet = s.cabinet ∧ s.unparkAll.arbiter.budget = s.arbiter.budget ∧
    s.unparkAll.arbiter.highPtr = s.arbiter.highPtr ∧ s.unparkAll.arbiter.lowPtr = s.arbiter.lowPtr ∧
    s.unparkAll.arbiter.lowTurn = s.arbiter.lowTurn ∧ s.unparkAll.arbiter.candidate = s.arbiter.candidate := by
  have hkept := State.unparkAll_keeps (fun t => (t.oms, t.rings, t.recipes, t.units, t.faults, t.ports, t.cabinet,
    t.arbiter.budget, t.arbiter.highPtr, t.arbiter.lowPtr, t.arbiter.lowTurn, t.arbiter.candidate))
    (fun _ _ => rfl) (fun _ _ _ => rfl) (fun _ _ => rfl) s
  simpa only [Prod.mk.injEq] using hkept

/-- The pool of u is that of s, unparked and without reservations; all else that R83 does not name is the same. -/
def State.PoolIdledTo (s u : State) : Prop :=
  (∀ c, u.chan c = if (s.chan c).state = .idle then { s.chan c with parked := none } else s.chan c) ∧
  (∀ c, u.stay c = none) ∧ (∀ h, u.head h = { s.head h with connected := (u.head h).connected }) ∧
  (∀ h, ((∃ c, (s.chan c).state = .idle ∧ (s.chan c).parked = some h ∧ (s.head h).connected = some c) →
      (u.head h).connected = none) ∧
    ((¬ ∃ c, (s.chan c).state = .idle ∧ (s.chan c).parked = some h ∧ (s.head h).connected = some c) →
      (u.head h).connected = (s.head h).connected)) ∧
  u.oms = s.oms ∧ u.rings = s.rings ∧ u.recipes = s.recipes ∧ u.units = s.units ∧ u.faults = s.faults ∧
  u.ports = s.ports ∧ u.arbiter.budget = s.arbiter.budget ∧ u.arbiter.highPtr = s.arbiter.highPtr ∧
  u.arbiter.lowPtr = s.arbiter.lowPtr ∧ u.arbiter.lowTurn = s.arbiter.lowTurn

theorem State.unparkAll_idles (s : State) : s.PoolIdledTo s.unparkAll := by
  obtain ⟨h1, h2, h3, h4, h5, h6, -, h8, h9, h10, h11, -⟩ := s.unparkAll_blocks
  refine ⟨s.chan_unparkAll, s.stay_unparkAll, fun h => ?_, fun h => ⟨fun hleaves => ?_, fun hstays => ?_⟩, h1, h2, h3, h4,
    h5, h6, h8, h9, h10, h11⟩
  · by_cases hleaves : ∃ c, (s.chan c).state = .idle ∧ (s.chan c).parked = some h ∧ (s.head h).connected = some c
    · rw [(s.head_unparkAll h).1 hleaves]
    · rw [(s.head_unparkAll h).2 hleaves]
  · rw [(s.head_unparkAll h).1 hleaves]
  · rw [(s.head_unparkAll h).2 hstays]

/-! ### ENTER_PROOF and LEAVE_PROOF (R156, R157) -/

theorem State.poolBusy_iff (s : State) :
    s.poolBusy = true ↔ ∃ c, (s.chan c).state = .transfer ∨ (s.chan c).state = .heating := by
  simp [State.poolBusy, allChannels]

section
variable {s : State} (hsetup : s.mode ≠ .unconfigured) (hquench : s.mode ≠ .quenched)
include hsetup hquench

theorem enterProofBody_of_mode : enterProofBody s =
    need (s.mode == .live) .wrongMode (need (!s.poolBusy) .busy (.ok (s.enterProof, []))) := by
  rw [enterProofBody, needMode_of_ne hsetup hquench]

theorem leaveProofBody_of_mode : leaveProofBody s =
    need (s.mode == .proof) .wrongMode (need (!s.poolBusy) .busy (.ok (s.leaveProof, []))) := by
  rw [leaveProofBody, needMode_of_ne hsetup hquench]
end

theorem State.leaveProof_idles (s : State) : s.PoolIdledTo s.leaveProof ∧ s.leaveProof.arbiter.candidate = none := by
  have hidles := s.unparkAll_idles
  unfold State.leaveProof
  generalize s.unparkAll = u at hidles ⊢
  exact ⟨hidles, rfl⟩

/-- Settles O54: both requests idle the pool; what follows them differs. -/
theorem proofIsEnteredAndLeftWithAnIdlePool : Obligations.ProofIsEnteredAndLeftWithAnIdlePool := by
  intro tag s hsetup hquench
  dsimp only
  rw [← s.poolBusy_iff]
  refine ⟨fun htakes => ?_, fun htakes => ?_⟩
  · have hbody := enterProofBody_of_mode hsetup hquench
    refine ⟨fun hmode => ?_, fun hmode hbusy => ?_, fun hmode hidle =>
      ⟨(s.setCabinet s.cabinet.enterProof).unparkAll, ?_, (s.setCabinet s.cabinet.enterProof).unparkAll_idles, ?_, ?_⟩⟩
    · rw [beq_eq_false_iff_ne.mpr hmode, need_false] at hbody
      exact serveSupervisor_refused rfl htakes hbody
    · rw [beq_iff_eq.mpr hmode, need_true, hbusy, Bool.not_true, need_false] at hbody
      exact serveSupervisor_refused rfl htakes hbody
    · rw [beq_iff_eq.mpr hmode, need_true, Bool.not_eq_true _ |>.mp hidle, Bool.not_false, need_true,
        State.enterProof] at hbody
      exact serveSupervisor_accepted rfl htakes hbody
    · exact (s.setCabinet s.cabinet.enterProof).unparkAll_blocks.2.2.2.2.2.2.1
    · exact (s.setCabinet s.cabinet.enterProof).unparkAll_blocks.2.2.2.2.2.2.2.2.2.2.2
  · have hbody := leaveProofBody_of_mode hsetup hquench
    refine ⟨fun hmode => ?_, fun hmode hbusy => ?_, fun hmode hidle => ⟨s.leaveProof, ?_, s.leaveProof_idles.1,
      s.leaveProof_idles.2, s.leaveProof_cabinet⟩⟩
    · rw [beq_eq_false_iff_ne.mpr hmode, need_false] at hbody
      exact serveSupervisor_refused rfl htakes hbody
    · rw [beq_iff_eq.mpr hmode, need_true, hbusy, Bool.not_true, need_false] at hbody
      exact serveSupervisor_refused rfl htakes hbody
    · rw [beq_iff_eq.mpr hmode, need_true, Bool.not_eq_true _ |>.mp hidle, Bool.not_false, need_true] at hbody
      exact serveSupervisor_accepted rfl htakes hbody

end Sys2Proof.Machine
end

section
/-! PROOF. LANE_RESET (R25, R26), and the faults of a channel with their containment (R80, R132, R135, R136). -/

namespace Sys2Proof.Machine

/-! ### The references of a lane (R25) -/

/-- The references of one slot's order removed. -/
def State.dropSlotRefs (s : State) (l : Lane) (t : State) (k : SlotId) : State :=
  match s.order l k with
  | some o => t.dropRefs o.recipes
  | none => t

theorem State.dropLaneRefs_eq (s : State) (l : Lane) : s.dropLaneRefs l = allSlots.foldl (s.dropSlotRefs l) s := rfl

theorem State.dropSlotRefs_keeps {α : Sort*} (v : State → α) (hv : ∀ (t : State) rs, v (t.dropRefs rs) = v t)
    (s : State) (l : Lane) (t : State) (k : SlotId) : v (s.dropSlotRefs l t k) = v t := by
  unfold State.dropSlotRefs
  split
  · exact hv t _
  · rfl

theorem State.dropLaneRefs_keeps {α : Sort*} (v : State → α) (hv : ∀ (t : State) rs, v (t.dropRefs rs) = v t)
    (s : State) (l : Lane) : v (s.dropLaneRefs l) = v s := by
  rw [State.dropLaneRefs_eq]
  have hfold : ∀ (ks : List SlotId) (t : State), v (ks.foldl (s.dropSlotRefs l) t) = v t := fun ks => by
    induction ks with
    | nil => exact fun t => rfl
    | cons k ks ih => exact fun t => (ih _).trans (s.dropSlotRefs_keeps v hv l t k)
  exact hfold _ _

theorem State.recipes_dropLaneRefs (s : State) (l : Lane) (r : RecipeId) : (s.dropLaneRefs l).recipes.get r =
    { s.recipes.get r with refs := (s.recipes.get r).refs -
        (allSlots.filter fun k => (s.order l k).any fun o => o.recipes.contains r).length } := by
  rw [State.dropLaneRefs_eq]
  have hfold : ∀ (ks : List SlotId) (t : State), (ks.foldl (s.dropSlotRefs l) t).recipes.get r =
      { t.recipes.get r with refs := (t.recipes.get r).refs -
        (ks.filter fun k => (s.order l k).any fun o => o.recipes.contains r).length } := fun ks => by
    induction ks with
    | nil => exact fun t => rfl
    | cons k ks ih =>
      intro t
      rw [List.foldl_cons, ih, List.filter_cons]
      cases ho : s.order l k with
      | none => simp [State.dropSlotRefs, ho]
      | some o =>
        by_cases hr : r ∈ o.recipes
        · simp [State.dropSlotRefs, ho, State.recipes_dropRefs, hr, Nat.sub_sub, Nat.add_comm]
        · simp [State.dropSlotRefs, ho, State.recipes_dropRefs, hr]
  exact hfold _ _

/-! ### The attempts of a lane (R26) -/

/-- A channel whose attempt is removed where it is the lane's. -/
def ChannelRec.withoutLane (l : Lane) (r : ChannelRec) : ChannelRec :=
  match r.attempt with
  | none => r
  | some a =>
    if a.lane ≠ l then r
    else if r.state = .heating then { r with state := .idle, attempt := none, moveTimer := none, heat := none }
    else { r with attempt := none }

/-- The peak power that a lane's attempt on the channel has committed. -/
def ChannelRec.lanePeak (l : Lane) (r : ChannelRec) : Nat :=
  (r.attempt.map fun a => if a.lane = l then a.peak else 0).getD 0

theorem State.removeAttempt_eq (l : Lane) (t : State) (c : ChannelId) : State.removeAttempt l t c =
    (t.setArbiter { t.arbiter with committed := t.arbiter.committed - (t.chan c).lanePeak l }).setChan c
      ((t.chan c).withoutLane l) := by
  unfold State.removeAttempt ChannelRec.lanePeak ChannelRec.withoutLane
  cases ha : (t.chan c).attempt with
  | none => exact (t.setChan_self c).symm
  | some a =>
    by_cases hl : a.lane = l
    · by_cases hheat : (t.chan c).state = .heating
      · simp [hl, hheat, State.release, ChannelRec.clear]
      · simp [hl, hheat, State.release]
    · simp only [hl, if_false, ne_eq, not_false_eq_true, if_true, Option.map_some, Option.getD_some, Nat.sub_zero]
      exact (t.setChan_self c).symm

theorem State.chan_removeAttempt (l : Lane) (t : State) (c d : ChannelId) : (State.removeAttempt l t c).chan d =
    if d = c then (t.chan c).withoutLane l else t.chan d := by
  rw [State.removeAttempt_eq, State.chan_setChan]
  rfl

theorem State.removeAttempt_keeps {α : Sort*} (v : State → α)
    (harbiter : ∀ (t : State) n, v (t.setArbiter { t.arbiter with committed := n }) = v t)
    (hchan : ∀ (t : State) c x, v (t.setChan c x) = v t) (l : Lane) (t : State) (c : ChannelId) :
    v (State.removeAttempt l t c) = v t := by
  rw [State.removeAttempt_eq]
  exact (hchan _ _ _).trans (harbiter _ _)

/-- Every attempt of the lane removed. -/
def State.attemptsRemoved (s : State) (l : Lane) : State := allChannels.foldl (State.removeAttempt l) s

theorem State.chan_attemptsRemoved (s : State) (l : Lane) (c : ChannelId) :
    (s.attemptsRemoved l).chan c = (s.chan c).withoutLane l := by
  have hfold := State.chan_foldl (State.removeAttempt l) (ChannelRec.withoutLane l) (State.chan_removeAttempt l)
    allChannels nodup_allChannels s c
  rwa [if_pos (mem_allChannels c)] at hfold

theorem State.committed_attemptsRemoved (s : State) (l : Lane) : (s.attemptsRemoved l).arbiter.committed =
    s.arbiter.committed - (allChannels.map fun c => (s.chan c).lanePeak l).sum := by
  have hstep : ∀ (t : State) c, (State.removeAttempt l t c).arbiter.committed =
      t.arbiter.committed - (t.chan c).lanePeak l := fun t c => by
    rw [State.removeAttempt_eq]
    rfl
  unfold State.attemptsRemoved
  exact foldl_sub (v := fun t => t.arbiter.committed) (w := fun t c => (t.chan c).lanePeak l) hstep
    (fun t c d hd => by rw [State.chan_removeAttempt, if_neg hd]) nodup_allChannels s

theorem State.attemptsRemoved_keeps {α : Sort*} (v : State → α)
    (harbiter : ∀ (t : State) n, v (t.setArbiter { t.arbiter with committed := n }) = v t)
    (hchan : ∀ (t : State) c x, v (t.setChan c x) = v t) (s : State) (l : Lane) : v (s.attemptsRemoved l) = v s :=
  foldl_keeps (State.removeAttempt_keeps v harbiter hchan l) allChannels s

/-! ### LANE_RESET (R25, R26) -/

/-- The lane's orders gone with their references, and its attempts with their power. -/
def State.laneCleared (s : State) (l : Lane) : State :=
  ((s.dropLaneRefs l).modOm l OrderManager.laneReset).attemptsRemoved l

/-- The lane's ring empty, its heads unlatched and cool, its event unit clear, and nothing owed to the heads `own`. -/
def State.swept (u : State) (l : Lane) (own : HeadId → Bool) : State :=
  ((((u.emptyRing l).clearLaneHeads l).liftStays own).dropCandidateIf own).modUnit (lanePort l) EventUnit.clear

/-- The state of an accepted LANE_RESET before the arbiter acts. -/
def State.laneWasReset (s : State) (l : Lane) : State := (s.laneCleared l).swept l (s.ofLane l)

theorem State.laneReset_eq (s : State) (l : Lane) : s.laneReset l = (s.laneWasReset l).arbitrate := rfl

theorem State.laneCleared_keeps {α : Sort*} (v : State → α) (hrefs : ∀ (t : State) rs, v (t.dropRefs rs) = v t)
    (hom : ∀ (t : State) m x, v (t.setOm m x) = v t)
    (harbiter : ∀ (t : State) n, v (t.setArbiter { t.arbiter with committed := n }) = v t)
    (hchan : ∀ (t : State) c x, v (t.setChan c x) = v t) (s : State) (l : Lane) : v (s.laneCleared l) = v s :=
  (State.attemptsRemoved_keeps v harbiter hchan _ l).trans ((hom _ _ _).trans (s.dropLaneRefs_keeps v hrefs l))

theorem State.dropCandidateIf_eq (s : State) (w : HeadId → Bool) : s.dropCandidateIf w =
    s.setArbiter { s.arbiter with candidate := s.arbiter.candidate.filter fun h => !w h } := by
  unfold State.dropCandidateIf
  cases hc : s.arbiter.candidate with
  | none =>
    rw [if_neg (by simp)]
    exact congrArg (fun x => { s with arbiter := { s.arbiter with candidate := x } }) hc
  | some h =>
    by_cases hw : w h = true
    · rw [if_pos (by simpa using hw)]
      simp [Option.filter, hw]
    · rw [if_neg (by simpa using hw)]
      simp only [Option.filter, hw, Bool.not_false, if_true]
      exact congrArg (fun x => { s with arbiter := { s.arbiter with candidate := x } }) hc

section
variable (s : State) (l : Lane)

theorem State.om_laneCleared (m : Lane) :
    (s.laneCleared l).om m = if m = l then (s.om l).laneReset else s.om m := by
  have hkept := State.attemptsRemoved_keeps (fun t => t.om m) (fun _ _ => rfl) (fun _ _ _ => rfl)
    ((s.dropLaneRefs l).modOm l OrderManager.laneReset) l
  have hrefs : ∀ m', (s.dropLaneRefs l).om m' = s.om m' := fun m' =>
    s.dropLaneRefs_keeps (fun t => t.om m') (fun _ _ => rfl) l
  rw [State.laneCleared, hkept, State.modOm_eq, State.om_setOm, hrefs, hrefs]

theorem State.laneCleared_blocks : (s.laneCleared l).rings = s.rings ∧ (s.laneCleared l).heads = s.heads ∧
    (s.laneCleared l).units = s.units ∧ (s.laneCleared l).bindings = s.bindings ∧
    (s.laneCleared l).faults = s.faults ∧ (s.laneCleared l).cabinet = s.cabinet ∧
    (s.laneCleared l).ports = s.ports := by
  have hkept := State.laneCleared_keeps (fun t => (t.rings, t.heads, t.units, t.bindings, t.faults, t.cabinet, t.ports))
    (fun _ _ => rfl) (fun _ _ _ => rfl) (fun _ _ => rfl) (fun _ _ _ => rfl) s l
  simpa only [Prod.mk.injEq] using hkept

theorem State.chan_laneCleared (c : ChannelId) : (s.laneCleared l).chan c = (s.chan c).withoutLane l := by
  rw [State.laneCleared, State.chan_attemptsRemoved]
  exact congrArg (ChannelRec.withoutLane l) (s.dropLaneRefs_keeps (fun t => t.chan c) (fun _ _ => rfl) l)

theorem State.recipes_laneCleared (r : RecipeId) : (s.laneCleared l).recipes.get r =
    { s.recipes.get r with refs := (s.recipes.get r).refs -
        (allSlots.filter fun k => (s.order l k).any fun o => o.recipes.contains r).length } := by
  have hkept := State.attemptsRemoved_keeps (fun t => t.recipes) (fun _ _ => rfl) (fun _ _ _ => rfl)
    ((s.dropLaneRefs l).modOm l OrderManager.laneReset) l
  rw [State.laneCleared, hkept]
  exact s.recipes_dropLaneRefs l r

theorem State.committed_laneCleared : (s.laneCleared l).arbiter.committed =
    s.arbiter.committed - (allChannels.map fun c => (s.chan c).lanePeak l).sum := by
  have harbiter : (s.dropLaneRefs l).arbiter = s.arbiter :=
    s.dropLaneRefs_keeps (fun t => t.arbiter) (fun _ _ => rfl) l
  have hchan : ∀ c, (s.dropLaneRefs l).chan c = s.chan c := fun c =>
    s.dropLaneRefs_keeps (fun t => t.chan c) (fun _ _ => rfl) l
  unfold State.laneCleared
  generalize s.dropLaneRefs l = u at harbiter hchan ⊢
  simp only [State.committed_attemptsRemoved, State.modOm_eq, State.setOm_arbiter, State.reads_setOm, harbiter, hchan]

theorem State.arbiter_laneCleared : (s.laneCleared l).arbiter = { s.arbiter with
    committed := s.arbiter.committed - (allChannels.map fun c => (s.chan c).lanePeak l).sum } := by
  have hrest := State.laneCleared_keeps (fun t => (t.arbiter.budget, t.arbiter.highPtr, t.arbiter.lowPtr,
    t.arbiter.lowTurn, t.arbiter.candidate, t.arbiter.stays))
    (fun _ _ => rfl) (fun _ _ _ => rfl) (fun _ _ => rfl) (fun _ _ _ => rfl) s l
  have hcommitted := s.committed_laneCleared l
  generalize (s.laneCleared l).arbiter = a at hrest hcommitted ⊢
  cases a
  simp only [Prod.mk.injEq] at hrest
  obtain ⟨h1, h2, h3, h4, h5, h6⟩ := hrest
  subst h1 h2 h3 h4 h5 h6 hcommitted
  rfl

theorem EventUnit.clear_isPending (u : EventUnit) (k : EventKind) : u.clear.isPending k = false := by
  cases k with
  | posted k => cases k <;> rfl
  | orderHalted | resultsPending => rfl

theorem State.unit_emptyRing (q : Port) : (s.emptyRing l).unit q = if q = readerPort l (s.ring l).reader then
    { s.unit q with results := (s.unit q).results.set l false } else s.unit q := by
  rw [State.emptyRing, State.reportResults, State.modUnit_eq, State.unit_setUnit]
  split
  · rename_i hq; rw [hq]; rfl
  · rfl

theorem State.swept_eq (own : HeadId → Bool) : ∃ a, a = (((s.emptyRing l).clearLaneHeads l).liftStays own).arbiter ∧
    s.swept l own = (((s.emptyRing l).clearLaneHeads l).setArbiter
      { a with candidate := s.arbiter.candidate.filter fun h => !own h }).modUnit (lanePort l) EventUnit.clear := by
  refine ⟨_, rfl, ?_⟩
  rw [State.swept, State.dropCandidateIf_eq]
  rfl

/-- What the sweep leaves unchanged. -/
theorem State.swept_blocks (own : HeadId → Bool) : (s.swept l own).oms = s.oms ∧
    (s.swept l own).channels = s.channels ∧ (s.swept l own).recipes = s.recipes ∧
    (s.swept l own).bindings = s.bindings ∧ (s.swept l own).faults = s.faults ∧
    (s.swept l own).cabinet = s.cabinet ∧ (s.swept l own).ports = s.ports := by
  obtain ⟨a, -, hswept⟩ := s.swept_eq l own
  rw [hswept]
  simp [State.emptyRing, State.clearLaneHeads, State.reportResults]

theorem State.ring_swept (own : HeadId → Bool) (m : Lane) : (s.swept l own).ring m =
    if m = l then { records := [], reserved := 0, reader := (s.ring l).reader } else s.ring m := by
  obtain ⟨a, -, hswept⟩ := s.swept_eq l own
  simp [hswept, State.emptyRing, State.clearLaneHeads, State.reportResults]

theorem State.head_swept (own : HeadId → Bool) (h : HeadId) : (s.swept l own).head h =
    if (s.head h).lane = some l then { s.head h with cueLatch := false, coolUntil := none } else s.head h := by
  obtain ⟨a, -, hswept⟩ := s.swept_eq l own
  rw [hswept]
  exact State.head_mapHeads (s.emptyRing l) _ h

theorem State.unit_swept (own : HeadId → Bool) (q : Port) : (s.swept l own).unit q =
    if q = lanePort l then ((s.emptyRing l).unit q).clear else (s.emptyRing l).unit q := by
  obtain ⟨a, -, hswept⟩ := s.swept_eq l own
  rw [hswept, State.modUnit_eq, State.unit_setUnit]
  split
  · rename_i hq; rw [hq]; rfl
  · rfl

theorem State.stay_swept (own : HeadId → Bool) (c : ChannelId) :
    (s.swept l own).stay c = (s.stay c).filter fun h => !own h := by
  obtain ⟨a, ha, hswept⟩ := s.swept_eq l own
  rw [hswept, ha]
  exact State.stay_liftStays ((s.emptyRing l).clearLaneHeads l) own c

theorem State.arbiter_swept (own : HeadId → Bool) : (s.swept l own).arbiter = { s.arbiter with
    candidate := s.arbiter.candidate.filter fun h => !own h
    stays := (s.swept l own).arbiter.stays } := by
  obtain ⟨a, ha, hswept⟩ := s.swept_eq l own
  rw [hswept, ha]
  rfl

/-- What LANE_RESET leaves in the blocks that it writes after the lane's orders and attempts are gone. -/
theorem State.laneWasReset_blocks : (s.laneWasReset l).oms = (s.laneCleared l).oms ∧
    (s.laneWasReset l).channels = (s.laneCleared l).channels ∧ (s.laneWasReset l).recipes = (s.laneCleared l).recipes ∧
    (s.laneWasReset l).bindings = s.bindings ∧ (s.laneWasReset l).faults = s.faults ∧
    (s.laneWasReset l).cabinet = s.cabinet ∧ (s.laneWasReset l).ports = s.ports := by
  obtain ⟨-, -, -, hbindings, hfaults, hcabinet, hports⟩ := s.laneCleared_blocks l
  obtain ⟨h1, h2, h3, h4, h5, h6, h7⟩ := (s.laneCleared l).swept_blocks l (s.ofLane l)
  exact ⟨h1, h2, h3, h4.trans hbindings, h5.trans hfaults, h6.trans hcabinet, h7.trans hports⟩

theorem State.ring_laneWasReset (m : Lane) : (s.laneWasReset l).ring m =
    if m = l then { records := [], reserved := 0, reader := (s.ring l).reader } else s.ring m := by
  have hring : ∀ m', (s.laneCleared l).ring m' = s.ring m' := State.ring_congr (s.laneCleared_blocks l).1
  rw [State.laneWasReset, State.ring_swept, hring, hring]

theorem State.head_laneWasReset (h : HeadId) : (s.laneWasReset l).head h =
    if (s.head h).lane = some l then { s.head h with cueLatch := false, coolUntil := none } else s.head h := by
  have hhead : (s.laneCleared l).head h = s.head h := State.head_congr (s.laneCleared_blocks l).2.1 h
  rw [State.laneWasReset, State.head_swept, hhead]

theorem State.unit_laneWasReset (q : Port) : (s.laneWasReset l).unit q =
    if q = lanePort l then ((s.emptyRing l).unit q).clear else (s.emptyRing l).unit q := by
  have hunit : ((s.laneCleared l).emptyRing l).unit q = (s.emptyRing l).unit q := by
    rw [State.unit_emptyRing, State.unit_emptyRing, State.unit_congr (s.laneCleared_blocks l).2.2.1,
      State.ring_congr (s.laneCleared_blocks l).1]
  rw [State.laneWasReset, State.unit_swept, hunit]

theorem State.arbiter_laneWasReset : (s.laneWasReset l).arbiter = { s.arbiter with
    committed := s.arbiter.committed - (allChannels.map fun c => (s.chan c).lanePeak l).sum
    candidate := s.arbiter.candidate.filter fun h => (s.head h).lane != some l
    stays := (s.laneWasReset l).arbiter.stays } := by
  have hswept := (s.laneCleared l).arbiter_swept l (s.ofLane l)
  rw [State.arbiter_laneCleared] at hswept
  exact hswept

theorem State.stay_laneWasReset (c : ChannelId) :
    (s.laneWasReset l).stay c = (s.stay c).filter fun h => (s.head h).lane != some l := by
  have hstay : (s.laneCleared l).stay c = s.stay c := by rw [State.stay, State.arbiter_laneCleared]; rfl
  rw [State.laneWasReset, State.stay_swept, hstay]
  rfl
end

theorem exec_laneReset {p : Port} {l : Lane} {tag : Byte} {x : List Byte} {s : State}
    (htakes : s.takes ⟨p, 0x15, tag, x⟩)
    (hlane : (portLane p = some l ∧ x = []) ∨ (p = .supervisor ∧ x = be1 (laneNum l))) :
    exec (.laneReset p tag x) s = .next ((s.laneWasReset l).arbitrate.answered ⟨p, 0x15, tag, x⟩ .ok []) := by
  have hlength : laneResetLengthOk p x = true := by
    rcases hlane with ⟨hport, rfl⟩ | ⟨rfl, rfl⟩
    · simp [laneResetLengthOk, hport]
    · rfl
  have hreset : resetLane p x = some l := by
    rcases hlane with ⟨hport, rfl⟩ | ⟨rfl, rfl⟩
    · simp only [resetLane, hport]
    · cases l <;> rfl
  have hbody : laneResetBody p x s = .ok ((s.laneWasReset l).arbitrate, []) := by
    simp only [laneResetBody, hreset, State.laneReset_eq]
  change serveAny _ (laneResetLengthOk p x) _ _ = _
  rw [hlength]
  exact serveAny_accepted htakes hbody

/-- Settles O24: the blocks of the lane are cleared one by one, and the other lane's stay. -/
theorem laneResetClearsOneLane : Obligations.LaneResetClearsOneLane := by
  intro p l tag x s htakes hlane
  obtain ⟨homs, hchannels, hrecipes, hbindings, hfaults, hcabinet, hports⟩ := s.laneWasReset_blocks l
  have hom : ∀ m, (s.laneWasReset l).om m = if m = l then (s.om l).laneReset else s.om m := fun m =>
    (State.om_congr homs m).trans (s.om_laneCleared l m)
  have homl : (s.laneWasReset l).om l = (s.om l).laneReset := (hom l).trans (if_pos rfl)
  refine ⟨s.laneWasReset l, exec_laneReset htakes hlane, fun k => ?_, by rw [homl]; rfl, by rw [homl]; rfl,
    by rw [homl]; rfl, by rw [homl]; rfl, by rw [homl]; rfl, by rw [homl]; rfl,
    (s.ring_laneWasReset l l).trans (if_pos rfl), s.head_laneWasReset l, fun c => ?_, s.stay_laneWasReset l,
    fun k _ => ?_, ?_, fun r => ?_, s.arbiter_laneWasReset l, ?_, fun m hm => ⟨?_, ?_, ?_⟩, hbindings, hfaults, hcabinet,
    hports⟩
  · rw [State.order, homl]
    exact vector_get_replicate _ _
  · exact (State.chan_congr hchannels c).trans (s.chan_laneCleared l c)
  · rw [State.unit_laneWasReset, if_pos rfl]
    exact EventUnit.clear_isPending _ k
  · rw [State.unit_laneWasReset, if_pos rfl, State.unit_emptyRing]
    split <;> rfl
  · rw [hrecipes]
    exact s.recipes_laneCleared l r
  · have hne : Port.supervisor ≠ lanePort l := by cases l <;> decide
    rw [State.unit_laneWasReset, if_neg hne, State.unit_emptyRing]
    cases hreader : (s.ring l).reader with
    | lane => exact if_neg hne
    | supervisor => rfl
  · rw [hom, if_neg hm]
  · rw [State.ring_laneWasReset, if_neg hm]
  · have hne : lanePort m ≠ lanePort l := by
      cases l <;> cases m <;> first
        | decide
        | exact absurd rfl hm
    rw [State.unit_laneWasReset, if_neg hne, State.unit_emptyRing,
      if_neg (readerPort_ne_lane hm.symm _).symm]

/-! ### Where an attempt's end leaves its channel -/

theorem State.chan_endAttempt {s : State} {c : ChannelId} {a : Attempt} (ha : (s.chan c).attempt = some a)
    {res : AttemptResult} (hflag : res.setsFlag = none) (dest : ChannelEnd) (d : ChannelId) :
    (s.endAttempt c res dest).chan d = (s.closeAttempt c res dest).chan d := by
  have hplant : (s.endAttempt c res dest).plant = (s.closeAttempt c res dest).plant := by
    unfold State.endAttempt
    rw [ha]
    dsimp only
    rw [hflag, State.judgeStay_plant, State.skipIfFlagged_plant, State.takeResult_plant]
  exact State.chan_of_plant hplant d

theorem State.closeAttempt_faulted {s : State} {c : ChannelId} {a : Attempt} (ha : (s.chan c).attempt = some a)
    (res : AttemptResult) : s.closeAttempt c res .faulted = (s.closeAttempt c res .idle).faultChannel c := by
  unfold State.closeAttempt
  rw [ha]

theorem State.chan_endAttempt_faulted {s : State} {c : ChannelId} {a : Attempt} (ha : (s.chan c).attempt = some a)
    {res : AttemptResult} (hflag : res.setsFlag = none) :
    (s.endAttempt c res .faulted).chan c = { (s.chan c).clear with state := .faulted, parked := none } := by
  rw [State.chan_endAttempt ha hflag, State.closeAttempt_faulted ha, State.chan_faultChannel, if_pos rfl,
    State.chan_closeAttempt s c c res a ha, if_pos rfl]
  rfl

theorem setsFlag_faultAbort {cause : AbortCause} (h : cause ≠ .headCoolant) :
    (AttemptResult.faultAbort cause).setsFlag = none := by
  cases cause with
  | headCoolant => exact absurd rfl h
  | inverter | matrix => rfl

/-! ### INVERTER and MATRIX faults (R80, R132, R136) -/

theorem State.requesting_of_unconfigured {s : State} (hmode : s.mode = .unconfigured) (h : HeadId) :
    s.requesting h = false := by
  by_contra hreq
  have hworking := s.working_of_requesting h (Bool.not_eq_false _ |>.mp hreq)
  rw [State.working, hmode] at hworking
  cases hworking

theorem State.arbitrate_of_unconfigured {s : State} (hmode : s.mode = .unconfigured)
    (hc : s.arbiter.candidate = none) : s.arbitrate = s :=
  s.arbitrate_idle hc (State.naming_none_of_served fun h => by
    rw [State.served, State.requesting_of_unconfigured hmode, Bool.false_and])

theorem State.channelFault_unconfigured {s : State} (hmode : s.mode = .unconfigured) (cls : CauseClass)
    (cause : AbortCause) (resp : Response) (c : ChannelId) : s.channelFault cls cause resp c = s := if_pos hmode

theorem State.channelFault_quench {s : State} (hmode : s.mode ≠ .unconfigured) (cls : CauseClass)
    (cause : AbortCause) (c : ChannelId) :
    s.channelFault cls cause .quench c = s.quenchCause (s.faultEntry cls (some c) (s.chan c).attempt) := if_neg hmode

theorem State.channelFault_contain {s : State} (hmode : s.mode ≠ .unconfigured) (cls : CauseClass)
    (cause : AbortCause) (c : ChannelId) : s.channelFault cls cause .contain c =
      (s.containChannel cause c).containError (s.faultEntry cls (some c) (s.chan c).attempt) := if_neg hmode

theorem State.faultEntry_eq (s : State) (cls : CauseClass) (c : Option ChannelId) (a : Option Attempt) :
    s.faultEntry cls c a =
      { cause := cls, channel := c, head := a.map (·.head), lane := a.map (·.lane), slot := a.map (·.slot),
        tag := a.bind fun x => (s.order x.lane x.slot).map (·.tag), joint := a.map (·.joint), time := s.now } := by
  cases a <;> rfl

theorem Severity.contain_ne_clear (v : Severity) : v.contain ≠ .clear := by cases v <;> decide

theorem Severity.contain_of_ne_clear {v : Severity} (h : v ≠ .clear) : v.contain = v := by
  cases v with
  | clear => exact absurd rfl h
  | contained | quench => rfl

theorem fillLog_some (log : Option FaultEntry) (e : FaultEntry) : fillLog log (some e) = some (log.getD e) := by
  cases log <;> rfl

theorem fillLog_none (log : Option FaultEntry) : fillLog log none = log := by cases log <;> rfl

theorem State.laneLog_fillLogs (s : State) (e : FaultEntry) (quenching : Bool) (l : Lane) :
    (s.fillLogs e quenching).faults.laneLogs.get l =
      fillLog (s.faults.laneLogs.get l) (s.laneFill e quenching l) := by
  cases l <;> rfl

theorem State.laneLog_containError (s : State) (e : FaultEntry) (l : Lane) :
    (s.containError e).faults.laneLogs.get l = (s.fillLogs e false).faults.laneLogs.get l := rfl

theorem State.containChannel_idle {s : State} {c : ChannelId} (h : (s.chan c).state = .idle) (cause : AbortCause) :
    s.containChannel cause c = s.faultChannel c := by
  simp only [State.containChannel, h]

theorem State.containChannel_transfer {s : State} {c : ChannelId} (h : (s.chan c).state = .transfer)
    (cause : AbortCause) : s.containChannel cause c =
      if (s.chan c).attempt.isSome then s.endAttempt c (.faultAbort cause) .faulted else s.faultChannel c := by
  simp only [State.containChannel, h]

theorem State.containChannel_heating {s : State} {c : ChannelId} (h : (s.chan c).state = .heating)
    (cause : AbortCause) : s.containChannel cause c = s.cutAttempt c (.faultAbort cause) .faulted := by
  simp only [State.containChannel, h]

/-- A contained fault takes an IDLE channel, and one with an attempt, to FAULTED, unparked, without the attempt. -/
theorem State.containChannel_faults {s : State} {c : ChannelId} {cause : AbortCause} (hcause : cause ≠ .headCoolant)
    (h : (s.chan c).state = .idle ∨ (s.chan c).state = .transfer ∨
      (s.chan c).state = .heating ∧ (s.chan c).attempt.isSome) :
    ((s.containChannel cause c).chan c).state = .faulted ∧ ((s.containChannel cause c).chan c).parked = none ∧
      ((s.containChannel cause c).chan c).attempt = none := by
  have hbare : ((s.faultChannel c).chan c).state = .faulted ∧ ((s.faultChannel c).chan c).parked = none ∧
      ((s.faultChannel c).chan c).attempt = none := by
    rw [State.chan_faultChannel, if_pos rfl]
    exact ⟨rfl, rfl, rfl⟩
  rcases h with hidle | htransfer | ⟨hheating, hsome⟩
  · rw [State.containChannel_idle hidle]
    exact hbare
  · rw [State.containChannel_transfer htransfer]
    split
    · rename_i hsome
      obtain ⟨a, ha⟩ := Option.isSome_iff_exists.mp hsome
      rw [State.chan_endAttempt_faulted ha (setsFlag_faultAbort hcause)]
      exact ⟨rfl, rfl, rfl⟩
    · exact hbare
  · obtain ⟨a, ha⟩ := Option.isSome_iff_exists.mp hsome
    have ha' : ((s.recordSegment c .cut).chan c).attempt = some a := by rw [State.chan_recordSegment]; exact ha
    rw [State.containChannel_heating hheating, State.cutAttempt,
      State.chan_endAttempt_faulted ha' (setsFlag_faultAbort hcause)]
    exact ⟨rfl, rfl, rfl⟩

/-- Settles O51: the fault by mode and response, the channel by its state, and what containment writes. -/
theorem channelFaultsAreHandledByResponse : Obligations.ChannelFaultsAreHandledByResponse := by
  intro c s
  have hinverter : exec (.inverterFaultReport c) s =
      .next (s.channelFault .inverter .inverter s.faults.inverter c).arbitrate := rfl
  have hmatrix : exec (.matrixFaultReport c) s =
      .next (s.channelFault .matrix .matrix s.faults.matrix c).arbitrate := rfl
  dsimp only
  rw [hinverter, hmatrix]
  refine ⟨fun hmode => ?_, fun hmode => ?_, fun cause hcause => ⟨?_, fun hstate => ?_, fun hstate hsome => ?_,
    fun hstate => State.containChannel_heating hstate cause, State.containChannel_faults hcause⟩, fun e => ?_⟩
  · rw [State.channelFault_unconfigured hmode, State.channelFault_unconfigured hmode]
    refine ⟨rfl, rfl, fun hc => ?_⟩
    rw [State.arbitrate_of_unconfigured hmode hc]
    exact ⟨rfl, rfl⟩
  · refine ⟨fun hresp => ?_, fun hresp => ?_, fun hresp => ?_, fun hresp => ?_⟩
    · rw [hresp, State.channelFault_quench hmode, State.faultEntry_eq]
    · rw [hresp, State.channelFault_quench hmode, State.faultEntry_eq]
    · rw [hresp, State.channelFault_contain hmode, State.faultEntry_eq]
    · rw [hresp, State.channelFault_contain hmode, State.faultEntry_eq]
  · rintro (hstate | hstate) <;> simp only [State.containChannel, hstate]
  · simp only [State.containChannel, hstate, State.modChan_eq]
  · rw [State.containChannel_transfer hstate, if_pos hsome]
  · refine ⟨Severity.contain_ne_clear _, Severity.contain_of_ne_clear, fillLog_some _ _, fun l hl => ?_, fun l hl => ?_,
      rfl⟩
    · rw [State.laneLog_containError, State.laneLog_fillLogs, State.laneFill, if_pos hl, fillLog_some]
    · rw [State.laneLog_containError, State.laneLog_fillLogs, State.laneFill, if_neg hl]
      exact fillLog_none _

end Sys2Proof.Machine
end

section
/-! PROOF. The joint that becomes the front of its head (R9, R87), and RESUME (R108 to R110). -/

namespace Sys2Proof.Machine

/-! ### Which joint is a head's front -/

/-- What the front of a head is found by. -/
def Joint.frontKey (j : Joint) : HeadId × Bool := (j.head, j.outcome.isNone)

theorem Order.frontIndex_congr {o o' : Order}
    (h : ∀ n : Nat, (o'.joints[n]?).map Joint.frontKey = (o.joints[n]?).map Joint.frontKey) (i : HeadId) :
    o'.frontIndex i = o.frontIndex i := by
  have hkeys : o'.joints.map Joint.frontKey = o.joints.map Joint.frontKey :=
    List.ext_getElem? fun n => by rw [List.getElem?_map, List.getElem?_map, h]
  have hfind : ∀ x : Order,
      x.frontIndex i = (x.joints.map Joint.frontKey).findIdx? fun p => p.1 == i && p.2 := fun x => by
    rw [List.findIdx?_map]
    rfl
  rw [hfind, hfind, hkeys]

theorem Order.joint_of_frontIndex {o : Order} {h : HeadId} {n : Nat} (hn : o.frontIndex h = some n) :
    ∃ j, o.joints[n]? = some j ∧ j.head = h ∧ j.outcome = none := by
  obtain ⟨hlt, hkey, -⟩ := List.findIdx?_eq_some_iff_getElem.mp hn
  rw [Bool.and_eq_true, beq_iff_eq, Option.isNone_iff_eq_none] at hkey
  exact ⟨_, List.getElem?_eq_getElem hlt, hkey⟩

theorem Order.front_eq_none {o : Order} {h : HeadId} : o.front h = none ↔ o.frontIndex h = none := by
  constructor
  · intro hnone
    cases hi : o.frontIndex h with
    | none => rfl
    | some i =>
      obtain ⟨j, hj, -⟩ := Order.joint_of_frontIndex hi
      rw [Order.front_eq_some.mpr ⟨hi, hj⟩] at hnone
      cases hnone
  · intro hnone
    rw [Order.front, hnone]

theorem Order.frontIndex_isSome {o : Order} {h : HeadId} :
    (o.frontIndex h).isSome = true ↔ ∃ x ∈ o.joints, x.head = h ∧ x.outcome = none := by
  rw [Order.frontIndex, List.findIdx?_isSome, List.any_eq_true]
  simp

/-! ### The arrival at the front (R9, R87) -/

/-- A PENDING joint at the front of its head, whose cue latch is `latch`. -/
def Joint.arrive (latch : Bool) (x : Joint) : Joint :=
  { x with state := if x.cue = true ∧ latch = false then .cueWait else .ready }

theorem Joint.arrive_state_ne_pending (latch : Bool) (x : Joint) : (x.arrive latch).state ≠ .pending := by
  unfold Joint.arrive
  dsimp only
  split <;> decide

/-- The joints, with the PENDING one at the front of every head in `hs` arrived. -/
def Order.arriveAt (o : Order) (hs : List HeadId) (latch : HeadId → Bool) (n : Nat) (x : Joint) : Joint :=
  if x.head ∈ hs ∧ o.frontIndex x.head = some n ∧ x.state = .pending then x.arrive (latch x.head) else x

/-- The order with the PENDING front joint of every head in `hs` arrived. -/
def Order.arrived (o : Order) (hs : List HeadId) (latch : HeadId → Bool) : Order :=
  { o with joints := o.joints.mapIdx (o.arriveAt hs latch) }

/-- The head's cue latch once its PENDING front joint has arrived. -/
def Order.latchAfter (o : Order) (h : HeadId) (latch : Bool) : Bool :=
  match o.front h with
  | some (_, j) => if j.state = .pending then latch && !j.cue else latch
  | none => latch

section
variable (o : Order) (hs : List HeadId) (latch : HeadId → Bool)

theorem Order.getElem?_arrived (n : Nat) :
    (o.arrived hs latch).joints[n]? = (o.joints[n]?).map (o.arriveAt hs latch n) := List.getElem?_mapIdx

theorem Order.arriveAt_eq (n : Nat) (x : Joint) :
    o.arriveAt hs latch n x = { x with state := (o.arriveAt hs latch n x).state } := by
  unfold Order.arriveAt
  split <;> rfl

theorem Order.frontIndex_arrived (h : HeadId) : (o.arrived hs latch).frontIndex h = o.frontIndex h :=
  Order.frontIndex_congr (fun n => by
    rw [Order.getElem?_arrived, Option.map_map]
    refine congrArg (fun f => Option.map f _) (funext fun x => ?_)
    rw [Function.comp_apply, Order.arriveAt_eq]
    rfl) h

theorem Order.arrived_nil : o.arrived [] latch = o := by
  have hjoints : o.joints.mapIdx (o.arriveAt [] latch) = o.joints := by
    refine List.ext_getElem? fun n => ?_
    rw [List.getElem?_mapIdx]
    have hid : o.arriveAt [] latch n = id := funext fun x => if_neg fun h => List.not_mem_nil h.1
    rw [hid, Option.map_id, id]
  rw [Order.arrived, hjoints]

theorem Order.arrived_arrived (h : HeadId) :
    (o.arrived hs latch).arrived [h] latch = o.arrived (hs ++ [h]) latch := by
  have hjoints : ((o.arrived hs latch).arrived [h] latch).joints = (o.arrived (hs ++ [h]) latch).joints := by
    refine List.ext_getElem? fun n => ?_
    rw [Order.getElem?_arrived, Order.getElem?_arrived, Order.getElem?_arrived, Option.map_map]
    refine congrArg (fun f => Option.map f _) (funext fun x => ?_)
    rw [Function.comp_apply]
    by_cases hx : x.head ∈ hs ∧ o.frontIndex x.head = some n ∧ x.state = .pending
    · have hfirst : o.arriveAt hs latch n x = x.arrive (latch x.head) := if_pos hx
      have hboth : o.arriveAt (hs ++ [h]) latch n x = x.arrive (latch x.head) :=
        if_pos ⟨List.mem_append_left _ hx.1, hx.2⟩
      rw [hfirst, hboth]
      exact if_neg fun hy => Joint.arrive_state_ne_pending _ _ hy.2.2
    · have hfirst : o.arriveAt hs latch n x = x := if_neg hx
      rw [hfirst, Order.arriveAt, Order.arriveAt, Order.frontIndex_arrived]
      refine if_congr ⟨fun hy => ⟨List.mem_append_right _ hy.1, hy.2⟩, fun hy => ⟨?_, hy.2⟩⟩ rfl rfl
      exact (List.mem_append.mp hy.1).resolve_left fun hmem => hx ⟨hmem, hy.2⟩
  exact congrArg (fun js => { o with joints := js }) hjoints

variable {o}

theorem Order.front_arrived {h : HeadId} {n : Nat} {y : Joint} (hy : (o.arrived hs latch).front h = some (n, y)) :
    ∃ x, o.front h = some (n, x) ∧ x.head = h ∧ y = o.arriveAt hs latch n x := by
  obtain ⟨hn, hget⟩ := Order.front_eq_some.mp hy
  rw [Order.frontIndex_arrived] at hn
  obtain ⟨x, hx, hhead, -⟩ := Order.joint_of_frontIndex hn
  rw [Order.getElem?_arrived, hx] at hget
  exact ⟨x, Order.front_eq_some.mpr ⟨hn, hx⟩, hhead, (Option.some.inj hget).symm⟩

theorem Order.front_arrived_none {h : HeadId} (hnone : (o.arrived hs latch).front h = none) : o.front h = none := by
  rw [Order.front_eq_none, Order.frontIndex_arrived] at hnone
  exact Order.front_eq_none.mpr hnone

/-- A head outside `hs` keeps its front joint. -/
theorem Order.front_arrived_of_not_mem {h : HeadId} (hmem : h ∉ hs) : (o.arrived hs latch).front h = o.front h := by
  cases hfront : o.front h with
  | none =>
    rw [Order.front_eq_none] at hfront ⊢
    rw [Order.frontIndex_arrived, hfront]
  | some p =>
    obtain ⟨n, x⟩ := p
    obtain ⟨hn, hx⟩ := Order.front_eq_some.mp hfront
    obtain ⟨x', hx', hhead, -⟩ := Order.joint_of_frontIndex hn
    have hxx : x' = x := Option.some.inj (hx'.symm.trans hx)
    have hkept : o.arriveAt hs latch n x = x := if_neg fun hy => hmem (hhead ▸ hxx ▸ hy.1)
    refine Order.front_eq_some.mpr ⟨by rw [Order.frontIndex_arrived, hn], ?_⟩
    rw [Order.getElem?_arrived, hx, Option.map_some, hkept]

theorem Order.arriveAt_of_ne_pending {n : Nat} {x : Joint} (h : x.state ≠ .pending) : o.arriveAt hs latch n x = x :=
  if_neg fun hx => h hx.2.2

theorem Order.arriveAt_front {h : HeadId} {n : Nat} {x : Joint} (hfront : o.front h = some (n, x)) (hmem : h ∈ hs)
    (hstate : x.state = .pending) : o.arriveAt hs latch n x = x.arrive (latch h) := by
  obtain ⟨hn, hx⟩ := Order.front_eq_some.mp hfront
  obtain ⟨x', hx', hhead, -⟩ := Order.joint_of_frontIndex hn
  obtain rfl : x' = x := Option.some.inj (hx'.symm.trans hx)
  subst hhead
  exact if_pos ⟨hmem, hn, hstate⟩

/-- After the arrival no front of a head in `hs` is PENDING. -/
theorem Order.front_arrived_ne_pending {h : HeadId} (hmem : h ∈ hs) {n : Nat} {y : Joint}
    (hy : (o.arrived hs latch).front h = some (n, y)) : y.state ≠ .pending := by
  obtain ⟨x, hx, -, rfl⟩ := Order.front_arrived hs latch hy
  by_cases hstate : x.state = .pending
  · rw [Order.arriveAt_front hs latch hx hmem hstate]
    exact Joint.arrive_state_ne_pending _ _
  · rw [Order.arriveAt_of_ne_pending hs latch hstate]
    exact hstate

theorem Order.latchAfter_front {h : HeadId} {n : Nat} {x : Joint} (hfront : o.front h = some (n, x)) (b : Bool) :
    o.latchAfter h b = if x.state = .pending then b && !x.cue else b := by
  rw [Order.latchAfter, hfront]

theorem Order.latchAfter_none {h : HeadId} (hfront : o.front h = none) (b : Bool) : o.latchAfter h b = b := by
  rw [Order.latchAfter, hfront]
end

theorem Order.modJoint_arrive {o : Order} {h : HeadId} {n : Nat} {x : Joint} (hfront : o.front h = some (n, x))
    (hstate : x.state = .pending) (latch : HeadId → Bool) {f : Joint → Joint} (hf : f x = x.arrive (latch h)) :
    o.modJoint n f = o.arrived [h] latch := by
  obtain ⟨hn, hx⟩ := Order.front_eq_some.mp hfront
  have hjoints : o.joints.modify n f = o.joints.mapIdx (o.arriveAt [h] latch) := by
    refine List.ext_getElem? fun m => ?_
    rw [List.getElem?_modify, List.getElem?_mapIdx]
    by_cases hm : n = m
    · subst hm
      rw [hx, Option.map_some, Order.arriveAt_front [h] latch hfront List.mem_cons_self hstate]
      exact congrArg some ((if_pos rfl).trans hf)
    · refine congrArg (fun g => Option.map g _) (funext fun y => ?_)
      rw [if_neg hm]
      refine (if_neg ?_).symm
      rintro ⟨hmem, hy, -⟩
      rw [List.mem_singleton.mp hmem, hn] at hy
      exact hm (Option.some.inj hy)
  rw [Order.modJoint, hjoints]
  rfl

theorem Order.arrived_of_ne_pending {o : Order} {h : HeadId} {n : Nat} {x : Joint} (hfront : o.front h = some (n, x))
    (hstate : x.state ≠ .pending) (latch : HeadId → Bool) : o.arrived [h] latch = o := by
  obtain ⟨hn, hx⟩ := Order.front_eq_some.mp hfront
  have hjoints : o.joints.mapIdx (o.arriveAt [h] latch) = o.joints := by
    refine List.ext_getElem? fun m => ?_
    rw [List.getElem?_mapIdx]
    cases hm : o.joints[m]? with
    | none => rfl
    | some y =>
      refine congrArg some (if_neg ?_)
      rintro ⟨hmem, hy, hpending⟩
      rw [List.mem_singleton.mp hmem, hn] at hy
      obtain rfl := Option.some.inj hy
      obtain rfl := Option.some.inj (hm.symm.trans hx)
      exact hstate hpending
  rw [Order.arrived, hjoints]

theorem Order.arrived_of_front_none {o : Order} {h : HeadId} (hfront : o.front h = none) (latch : HeadId → Bool) :
    o.arrived [h] latch = o := by
  rw [Order.front_eq_none] at hfront
  have hjoints : o.joints.mapIdx (o.arriveAt [h] latch) = o.joints := by
    refine List.ext_getElem? fun m => ?_
    rw [List.getElem?_mapIdx]
    have hid : o.arriveAt [h] latch m = id := funext fun y => if_neg fun hy => by
      rw [List.mem_singleton.mp hy.1, hfront] at hy
      cases hy.2.1
    rw [hid, Option.map_id, id]
  rw [Order.arrived, hjoints]

/-- The head's record with the latch given. -/
def HeadRec.withLatch (r : HeadRec) (b : Bool) : HeadRec := { r with cueLatch := b }

/-- The head's latch in the state. -/
def State.latch (s : State) (h : HeadId) : Bool := (s.head h).cueLatch

/-- The arrival at the front of a head, as writes of the order's slot and of the head's latch. -/
theorem State.frontArrival_eq {s : State} {l : Lane} {k : SlotId} {o : Order} (hactive : s.active l = some (k, o))
    (h : HeadId) : s.frontArrival l h = (s.setSlot l k (some (o.arrived [h] s.latch))).setHead h
      ((s.head h).withLatch (o.latchAfter h (s.latch h))) := by
  have ho := (State.order_of_active hactive).1
  have hsame : ∀ t : State, t.head h = s.head h → t.setHead h ((s.head h).withLatch (s.latch h)) = t := fun t ht =>
    (congrArg (t.setHead h) ht.symm).trans (t.setHead_self h)
  unfold State.frontArrival
  rw [hactive]
  dsimp only
  cases hfront : o.front h with
  | none =>
    rw [Order.latchAfter_none hfront, Order.arrived_of_front_none hfront, s.setSlot_self ho, hsame s rfl]
  | some p =>
    obtain ⟨i, j⟩ := p
    rw [Order.latchAfter_front hfront]
    dsimp only
    by_cases hstate : j.state = .pending
    · rw [if_pos hstate, if_pos hstate, State.modJoint_of_order ho, State.modJoint_of_order ho]
      by_cases hcue : j.cue = true
      · by_cases hlatch : (s.head h).cueLatch = true
        · rw [if_pos hcue, if_pos hlatch, Order.modJoint_arrive hfront hstate s.latch
            (f := fun x => { x with state := .ready }) (by simp [Joint.arrive, State.latch, hlatch])]
          simp [State.latch, hcue, HeadRec.withLatch]
        · rw [if_pos hcue, if_neg hlatch, Order.modJoint_arrive hfront hstate s.latch
            (f := fun x => { x with state := .cueWait }) (by simp [Joint.arrive, State.latch, hlatch, hcue])]
          have hkept : (s.latch h && !j.cue) = s.latch h := by simp [State.latch, hlatch]
          rw [hkept]
          exact (hsame (s.setSlot l k _) rfl).symm
      · rw [if_neg hcue, Order.modJoint_arrive hfront hstate s.latch (f := fun x => { x with state := .ready })
          (by simp [Joint.arrive, hcue])]
        have hkept : (s.latch h && !j.cue) = s.latch h := by simp [hcue]
        rw [hkept]
        exact (hsame (s.setSlot l k _) rfl).symm
    · rw [if_neg hstate, if_neg hstate, Order.arrived_of_ne_pending hfront hstate, s.setSlot_self ho, hsame s rfl]

theorem State.frontArrival_idle {s : State} {l : Lane} (hactive : s.active l = none) (h : HeadId) :
    s.frontArrival l h = s := by
  unfold State.frontArrival
  rw [hactive]

section
variable {o : Order} {h : HeadId} {latch : HeadId → Bool}

/-- A joint that is not the head's front after the arrival has not changed. -/
theorem Order.arriveAt_of_not_front {n : Nat} {x : Joint} (hx : o.joints[n]? = some x)
    (hnot : ∀ y, (o.arrived [h] latch).front h ≠ some (n, y)) : o.arriveAt [h] latch n x = x := by
  refine if_neg ?_
  rintro ⟨hmem, hn, -⟩
  rw [List.mem_singleton.mp hmem] at hn
  refine hnot (o.arriveAt [h] latch n x) (Order.front_eq_some.mpr ⟨by rw [Order.frontIndex_arrived, hn], ?_⟩)
  rw [Order.getElem?_arrived, hx, Option.map_some]

theorem Order.front_of_arrived {n : Nat} {x y : Joint} (hx : o.joints[n]? = some x)
    (hy : (o.arrived [h] latch).front h = some (n, y)) :
    o.front h = some (n, x) ∧ y = o.arriveAt [h] latch n x := by
  obtain ⟨x', hfront, -, hy'⟩ := Order.front_arrived [h] latch hy
  obtain rfl : x' = x := Option.some.inj ((Order.front_eq_some.mp hfront).2.symm.trans hx)
  exact ⟨hfront, hy'⟩
end

theorem HeadRec.withLatch_self (r : HeadRec) : r.withLatch r.cueLatch = r := rfl

theorem modify_eq_set {α : Type*} {xs : List α} {i : Nat} {x : α} (hx : xs[i]? = some x) (f : α → α) :
    xs.modify i f = xs.set i (f x) := by
  refine List.ext_getElem? fun n => ?_
  rw [List.getElem?_modify, List.getElem?_set]
  obtain ⟨hlt, rfl⟩ := List.getElem?_eq_some_iff.mp hx
  by_cases hn : i = n
  · subst hn
    simp [hlt]
  · simp [hn]

theorem Order.getElem?_modJoint {o : Order} {i : Nat} {j : Joint} (hj : o.joints[i]? = some j) (f : Joint → Joint)
    (n : Nat) : (o.modJoint i f).joints[n]? = if n = i then some (f j) else o.joints[n]? := by
  obtain ⟨hlt, -⟩ := List.getElem?_eq_some_iff.mp hj
  rw [Order.modJoint, modify_eq_set hj, List.getElem?_set]
  by_cases hn : n = i
  · subst hn
    rw [if_pos rfl, if_pos rfl, if_pos hlt]
  · rw [if_neg hn, if_neg (Ne.symm hn)]

/-! ### RESUME (R108 to R110) -/

/-- The state of an order whose halted-joint list is `rest`. -/
def stateAfter (rest : List Nat) : OrderState := if rest = [] then .running else .halted

/-- The Order Manager with the halted-joint list given. -/
def OrderManager.withHalted (m : OrderManager) (rest : List Nat) : OrderManager := { m with halted := rest }

/-- The list shortened to `rest`, and the HALTED order `o` of the slot in its state after that. -/
def State.resumed (s : State) (l : Lane) (k : SlotId) (rest : List Nat) (o : Order) : State :=
  ((s.setOm l ((s.om l).withHalted rest)).setSlot l k (some { o with state := stateAfter rest })).setUnit (lanePort l)
    { s.unit (lanePort l) with halted := if rest = [] then false else (s.unit (lanePort l)).halted }

theorem State.leaveHalted_resumed {s : State} {l : Lane} {k : SlotId} {rest : List Nat} {o : Order}
    (hstate : o.state = .halted) :
    ((s.setOm l ((s.om l).withHalted rest)).setSlot l k (some o)).leaveHalted l k = s.resumed l k rest o := by
  have hhalted : (((s.setOm l ((s.om l).withHalted rest)).setSlot l k (some o)).om l).halted = rest := by
    simp [State.om_setSlot, OrderManager.withHalted]
  have ho : ((s.setOm l ((s.om l).withHalted rest)).setSlot l k (some o)).order l k = some o := by
    simp [State.order_setSlot]
  unfold State.resumed stateAfter
  by_cases hrest : rest = []
  · rw [State.leaveHalted_of_nil (hhalted.trans hrest) ho, State.setSlot_setSlot, if_pos hrest, if_pos hrest, hstate,
      if_pos rfl, Order.unhalted_eq, hstate, if_pos rfl]
    rfl
  · rw [State.leaveHalted_of_cons (fun h => hrest (hhalted.symm.trans h)), if_neg hrest, if_neg hrest]
    have horder : ({ o with state := .halted } : Order) = o := by rw [← hstate]
    rw [horder]
    exact (State.setUnit_self ((s.setOm l ((s.om l).withHalted rest)).setSlot l k (some o)) (lanePort l)).symm

section
variable {s : State} {l : Lane} {k : SlotId} {o : Order} (rest : List Nat)

theorem State.om_resumed : ((s.resumed l k rest o).om l).halted = rest := by
  simp [State.resumed, State.om_setSlot, OrderManager.withHalted]

theorem State.order_resumed (m : Lane) (n : SlotId) : (s.resumed l k rest o).order m n =
    if m = l ∧ n = k then some { o with state := stateAfter rest } else s.order m n := by
  unfold State.resumed
  rw [(State.reads_setUnit _ _ _).2.2.2.2.2.1, State.order_setSlot]
  refine if_congr Iff.rfl rfl ?_
  rw [State.order_setOm]
  split
  · rename_i hm
    rw [hm]
    rfl
  · rfl

theorem State.unit_resumed (q : Port) : (s.resumed l k rest o).unit q =
    if q = lanePort l ∧ rest = [] then { s.unit q with halted := false } else s.unit q := by
  unfold State.resumed
  rw [State.unit_setUnit]
  by_cases hq : q = lanePort l
  · subst hq
    by_cases hrest : rest = []
    · simp [hrest]
    · simp [hrest]
  · simp [hq]

theorem State.resumed_blocks : (s.resumed l k rest o).heads = s.heads ∧ (s.resumed l k rest o).channels = s.channels ∧
    (s.resumed l k rest o).rings = s.rings ∧ (s.resumed l k rest o).recipes = s.recipes ∧
    (s.resumed l k rest o).arbiter = s.arbiter ∧ (s.resumed l k rest o).faults = s.faults ∧
    (s.resumed l k rest o).cabinet = s.cabinet ∧ (s.resumed l k rest o).ports = s.ports := by
  simp [State.resumed, State.setSlot]

theorem State.active_resumed (hactive : s.active l = some (k, o)) (o' : Order) :
    (s.resumed l k rest o').active l = some (k, { o' with state := stateAfter rest }) := by
  refine State.active_of_slot hactive ((s.order_resumed rest l k).trans (if_pos ⟨rfl, rfl⟩)) ?_ fun n hn => ?_
  · unfold stateAfter
    dsimp only
    split <;> decide
  · rw [State.order_resumed, if_neg fun h => hn h.2]
end

section
variable {l : Lane} {s : State} (hsetup : s.mode ≠ .unconfigured) (hquench : s.mode ≠ .quenched)
include hsetup hquench

theorem resumeBody_idle {q : List Byte} {x : Decision} (hd : decisionOf (byteAt q 0) = some x)
    (hactive : s.active l = none) :
    resumeBody q l s = .error .noActive := by
  simp only [resumeBody, hd, needMode_of_ne hsetup hquench, hactive]

theorem resumeBody_not_halted {q : List Byte} {x : Decision} (hd : decisionOf (byteAt q 0) = some x) {k : SlotId}
    {o : Order} (hactive : s.active l = some (k, o)) (hstate : o.state ≠ .halted) :
    resumeBody q l s = .error .notHalted := by
  simp only [resumeBody, hd, needMode_of_ne hsetup hquench, hactive, beq_eq_false_iff_ne.mpr hstate]
  rfl

theorem resumeBody_halted {q : List Byte} {x : Decision} (hd : decisionOf (byteAt q 0) = some x) {k : SlotId}
    {o : Order} (hactive : s.active l = some (k, o)) (hstate : o.state = .halted) {i : Nat} {rest : List Nat}
    (hhalted : (s.om l).halted = i :: rest) {j : Joint} (hj : o.joints[i]? = some j) :
    resumeBody q l s = need (retryOk x j) .retryLimit (.ok (s.resume x l k i j, resumeAnswer k i rest.length)) := by
  simp only [resumeBody, hd, needMode_of_ne hsetup hquench, hactive, hstate, beq_self_eq_true, need_true, hhalted, hj]

end

section
variable {s : State} {l : Lane} {k : SlotId} {o : Order} {i : Nat} {rest : List Nat}
  (hhalted : (s.om l).halted = i :: rest) (ho : s.order l k = some o) (hstate : o.state = .halted)
include hhalted ho hstate

theorem State.popHalted_modJoint (f : Joint → Joint) :
    ((s.popHalted l).modJoint l k i f).leaveHalted l k = s.resumed l k rest (o.modJoint i f) := by
  have hpop : s.popHalted l = s.setOm l ((s.om l).withHalted rest) := by
    rw [State.popHalted, State.modOm_eq, hhalted, List.tail_cons]
    rfl
  have horder : (s.setOm l ((s.om l).withHalted rest)).order l k = some o := by
    rw [State.order_setOm, if_pos rfl]
    exact ho
  rw [hpop, State.modJoint_of_order horder]
  exact State.leaveHalted_resumed (o := o.modJoint i f) hstate

theorem State.retryJoint_eq (j : Joint) : s.retryJoint l k i j = (s.resumed l k rest (o.modJoint i fun x =>
    { x with state := if (s.head j.head).coolUntil.isSome then .cooling else .ready })).arbitrate := by
  rw [← State.popHalted_modJoint hhalted ho hstate]
  rfl

theorem State.skipJoint_eq (j : Joint) : s.skipJoint l k i j =
    ((((s.resumed l k rest (o.modJoint i fun x => x.giveOutcome .underheat)).frontArrival l j.head).nearDoneTest
      l).completionCheck l).arbitrate := by
  rw [← State.popHalted_modJoint hhalted ho hstate]
  rfl
end

/-- The order of a SKIP before the next joint of the head arrives. -/
def Order.skipped (o : Order) (i : Nat) (rest : List Nat) : Order :=
  { o.modJoint i fun x => x.giveOutcome .underheat with state := stateAfter rest }

/-- The state of a SKIP before the near-done test. -/
def State.skipped (s : State) (l : Lane) (k : SlotId) (rest : List Nat) (o : Order) (i : Nat) (h : HeadId) : State :=
  ((s.resumed l k rest (o.modJoint i fun x => x.giveOutcome .underheat)).setSlot l k
    (some ((o.skipped i rest).arrived [h] s.latch))).setHead h
    ((s.head h).withLatch ((o.skipped i rest).latchAfter h (s.latch h)))

section
variable {s : State} {l : Lane} {k : SlotId} {o : Order} {i : Nat} (rest : List Nat)

theorem State.skipped_eq (hactive : s.active l = some (k, o)) (h : HeadId) :
    (s.resumed l k rest (o.modJoint i fun x => x.giveOutcome .underheat)).frontArrival l h =
      s.skipped l k rest o i h := by
  have hhead : ∀ h', (s.resumed l k rest (o.modJoint i fun x => x.giveOutcome .underheat)).head h' = s.head h' :=
    State.head_congr (State.resumed_blocks rest).1
  have hlatch : (s.resumed l k rest (o.modJoint i fun x => x.giveOutcome .underheat)).latch = s.latch :=
    funext fun h' => congrArg HeadRec.cueLatch (hhead h')
  rw [State.frontArrival_eq (State.active_resumed rest hactive _), hlatch, hhead]
  rfl

theorem State.head_skipped (h h' : HeadId) : (s.skipped l k rest o i h).head h' =
    if h' = h then (s.head h).withLatch ((o.skipped i rest).latchAfter h (s.latch h)) else s.head h' := by
  rw [State.skipped, State.head_setHead]
  refine if_congr Iff.rfl rfl ?_
  rw [(State.reads_setSlot _ _ _ _).2.1, State.head_congr (State.resumed_blocks rest).1]

theorem State.order_skipped (h : HeadId) (m : Lane) (n : SlotId) : (s.skipped l k rest o i h).order m n =
    if m = l ∧ n = k then some ((o.skipped i rest).arrived [h] s.latch) else s.order m n := by
  rw [State.skipped, (State.reads_setHead _ _ _).2.2.2.2.2.1, State.order_setSlot]
  split
  · rfl
  · rename_i hne
    rw [State.order_resumed, if_neg hne]

theorem State.skipped_blocks (h : HeadId) : (s.skipped l k rest o i h).channels = s.channels ∧
    (s.skipped l k rest o i h).rings = s.rings ∧ (s.skipped l k rest o i h).recipes = s.recipes ∧
    (s.skipped l k rest o i h).arbiter = s.arbiter ∧ (s.skipped l k rest o i h).faults = s.faults ∧
    (s.skipped l k rest o i h).cabinet = s.cabinet ∧ (s.skipped l k rest o i h).ports = s.ports := by
  simp [State.skipped, State.resumed, State.setSlot]

theorem State.unit_skipped (h : HeadId) (q : Port) : (s.skipped l k rest o i h).unit q =
    if q = lanePort l ∧ rest = [] then { s.unit q with halted := false } else s.unit q := by
  rw [← State.unit_resumed (o := o.modJoint i fun x => x.giveOutcome .underheat) (k := k)]
  rfl

theorem State.halted_skipped (h : HeadId) : ((s.skipped l k rest o i h).om l).halted = rest := by
  simp [State.skipped, State.resumed, State.om_setSlot, OrderManager.withHalted]
end

section
variable {o : Order} {i : Nat} (rest : List Nat) {j : Joint} (hj : o.joints[i]? = some j)
include hj

theorem Order.getElem?_skipped (n : Nat) : (o.skipped i rest).joints[n]? =
    if n = i then some (j.giveOutcome .underheat) else o.joints[n]? := Order.getElem?_modJoint hj _ n
end

/-- Settles O45: the decisions of RESUME by the slot's order, RETRY as one write of the joint, SKIP as the arrival of
the head's next joint. -/
theorem resumeDecidesOldestHaltedJoint : Obligations.ResumeDecidesOldestHaltedJoint := by
  intro p l tag s hport hsetup hquench htakesRetry htakesSkip
  have hretry : decisionOf (byteAt (be1 0) 0) = some .retry := rfl
  have hskip : decisionOf (byteAt (be1 1) 0) = some .skip := rfl
  refine ⟨fun hactive => ⟨serveLane_refused hport htakesRetry (resumeBody_idle hsetup hquench hretry hactive),
    serveLane_refused hport htakesSkip (resumeBody_idle hsetup hquench hskip hactive)⟩, fun k o hactive =>
    ⟨fun hstate => ⟨serveLane_refused hport htakesRetry (resumeBody_not_halted hsetup hquench hretry hactive hstate),
      serveLane_refused hport htakesSkip (resumeBody_not_halted hsetup hquench hskip hactive hstate)⟩,
    fun i rest j hstate hhalted hj => ?_⟩⟩
  have hbodyRetry := resumeBody_halted hsetup hquench hretry hactive hstate hhalted hj
  have hbodySkip := resumeBody_halted hsetup hquench hskip hactive hstate hhalted hj
  have ho := (State.order_of_active hactive).1
  refine ⟨fun hlimit => ?_, fun hlimit => ?_, ?_⟩
  · refine serveLane_refused hport htakesRetry (hbodyRetry.trans ?_)
    rw [retryOk, decide_eq_false (Nat.not_lt.mpr hlimit)]
    rfl
  · obtain ⟨hheads, hchannels, hrings, hrecipes, harbiter, hfaults, hcabinet, hports⟩ := State.resumed_blocks
      (s := s) (l := l) (k := k) (o := o.modJoint i fun x =>
        { x with state := if (s.head j.head).coolUntil.isSome then .cooling else .ready }) rest
    refine ⟨_, serveLane_accepted hport htakesRetry ?_, State.om_resumed rest, ?_, ?_, fun m n hne => ?_, hheads,
      hchannels, hrings, hrecipes, harbiter, hfaults, hcabinet, hports⟩
    · rw [hbodyRetry, retryOk, decide_eq_true hlimit, need_true, State.resume, State.retryJoint_eq hhalted ho hstate]
      rfl
    · rw [State.order_resumed, if_pos ⟨rfl, rfl⟩, Order.modJoint, modify_eq_set hj]
      rfl
    · rw [State.unit_resumed]
      by_cases hrest : rest = []
      · rw [if_pos ⟨rfl, hrest⟩, if_pos hrest]
      · rw [if_neg fun h => hrest h.2, if_neg hrest]
    · rw [State.order_resumed, if_neg fun h => hne.elim (fun hm => hm h.1) fun hn => hn h.2]
  · obtain ⟨hchannels, hrings, hrecipes, harbiter, hfaults, hcabinet, hports⟩ :=
      State.skipped_blocks (s := s) (l := l) (k := k) (o := o) (i := i) rest j.head
    have hget := Order.getElem?_skipped rest hj
    have hhead := State.head_skipped (s := s) (l := l) (k := k) (o := o) (i := i) rest j.head
    have hfront : ∀ n x y, n ≠ i → o.joints[n]? = some x →
        ((o.skipped i rest).arrived [j.head] s.latch).front j.head = some (n, y) →
        (o.skipped i rest).front j.head = some (n, x) ∧ y = (o.skipped i rest).arriveAt [j.head] s.latch n x :=
      fun n x y hn hx hy => Order.front_of_arrived ((hget n).trans ((if_neg hn).trans hx)) hy
    refine ⟨s.skipped l k rest o i j.head, (o.skipped i rest).arrived [j.head] s.latch,
      serveLane_accepted hport htakesSkip ?_, State.halted_skipped rest j.head,
      (State.order_skipped rest j.head l k).trans (if_pos ⟨rfl, rfl⟩), rfl, State.unit_skipped rest j.head, ?_,
      fun n x hn hx => ?_, fun n y => Order.front_arrived_ne_pending [j.head] s.latch List.mem_cons_self,
      fun n x y hn hx hy => ?_, fun n x hn hx hnot => ?_, fun hnone => ?_, fun h hne => (hhead h).trans (if_neg hne),
      fun m n hne => ?_, fun h => ?_, hchannels, hrings, hrecipes, harbiter, hfaults, hcabinet, hports⟩
    · rw [hbodySkip, retryOk, need_true, State.resume, State.skipJoint_eq hhalted ho hstate,
        State.skipped_eq rest hactive]
      rfl
    · rw [Order.getElem?_arrived, hget, if_pos rfl, Option.map_some]
      exact congrArg some (Order.arriveAt_of_ne_pending _ _ (show JointState.done ≠ .pending by decide))
    · refine ⟨(o.skipped i rest).arriveAt [j.head] s.latch n x, ?_, Order.arriveAt_eq _ _ _ _ _, fun hpending =>
        Order.arriveAt_of_ne_pending _ _ hpending⟩
      rw [Order.getElem?_arrived, hget, if_neg hn, hx, Option.map_some]
    · obtain ⟨hx', rfl⟩ := hfront n x y hn hx hy
      rw [hhead, if_pos rfl, Order.latchAfter_front hx']
      refine ⟨fun hpending => ?_, fun hpending => ?_⟩
      · rw [if_neg hpending]
        exact HeadRec.withLatch_self _
      · rw [if_pos hpending, Order.arriveAt_front _ _ hx' List.mem_cons_self hpending]
        exact ⟨rfl, rfl⟩
    · have hx' := (hget n).trans ((if_neg hn).trans hx)
      rw [Order.getElem?_arrived, hx', Option.map_some, Order.arriveAt_of_not_front hx' hnot]
    · rw [hhead, if_pos rfl, Order.latchAfter_none (Order.front_arrived_none _ _ hnone)]
      exact HeadRec.withLatch_self _
    · rw [State.order_skipped, if_neg fun h => hne.elim (fun hm => hm h.1) fun hn => hn h.2]
    · rw [hhead]
      split
      · rename_i hh
        rw [hh]
        rfl
      · rfl

end Sys2Proof.Machine
end

section
/-! PROOF. What an attempt result makes of its joint, its order and its head (R101 to R105, R56). -/

namespace Sys2Proof.Machine

/-! ### The arrival on any lane state -/

section
variable (s : State) (l : Lane) (h : HeadId)

theorem State.frontArrival_blocks : (s.frontArrival l h).channels = s.channels ∧
    (s.frontArrival l h).rings = s.rings ∧ (s.frontArrival l h).recipes = s.recipes ∧
    (s.frontArrival l h).units = s.units ∧ (s.frontArrival l h).arbiter = s.arbiter ∧
    (s.frontArrival l h).faults = s.faults ∧ (s.frontArrival l h).cabinet = s.cabinet ∧
    (s.frontArrival l h).ports = s.ports := by
  cases hactive : s.active l with
  | none =>
    rw [State.frontArrival_idle hactive]
    simp
  | some p =>
    rw [State.frontArrival_eq hactive]
    simp [State.setSlot]

theorem State.om_frontArrival (m : Lane) :
    ((s.frontArrival l h).om m) = { s.om m with slots := ((s.frontArrival l h).om m).slots } := by
  cases hactive : s.active l with
  | none => rw [State.frontArrival_idle hactive]
  | some p =>
    rw [State.frontArrival_eq hactive]
    simp only [State.reads_setHead, State.om_setSlot]
    split
    · rename_i hm
      rw [hm]
    · rfl

theorem State.head_frontArrival : ∃ b, ∀ h', (s.frontArrival l h).head h' =
    if h' = h then (s.head h).withLatch b else s.head h' := by
  cases hactive : s.active l with
  | none =>
    refine ⟨s.latch h, fun h' => ?_⟩
    rw [State.frontArrival_idle hactive]
    split
    · rename_i hh
      rw [hh]
      exact (HeadRec.withLatch_self _).symm
    · rfl
  | some p =>
    refine ⟨p.2.latchAfter h (s.latch h), fun h' => ?_⟩
    rw [State.frontArrival_eq hactive, State.head_setHead]
    rfl

theorem State.order_frontArrival {k : SlotId} {o : Order} (ho : s.order l k = some o) :
    ∃ o', (s.frontArrival l h).order l k = some o' ∧ (o' = o ∨ o' = o.arrived [h] s.latch) := by
  cases hactive : s.active l with
  | none =>
    rw [State.frontArrival_idle hactive]
    exact ⟨o, ho, Or.inl rfl⟩
  | some p =>
    rw [State.frontArrival_eq hactive, (State.reads_setHead _ _ _).2.2.2.2.2.1, State.order_setSlot]
    by_cases hk : k = p.1
    · subst hk
      obtain rfl := Option.some.inj (ho.symm.trans (State.order_of_active hactive).1)
      exact ⟨_, if_pos ⟨rfl, rfl⟩, Or.inr rfl⟩
    · exact ⟨o, (if_neg fun e => hk e.2).trans ho, Or.inl rfl⟩
end

/-! ### Cool-until (R56) -/

/-- The head's record with the cool-until given. -/
def HeadRec.withCool (r : HeadRec) (t : Option Time) : HeadRec := { r with coolUntil := t }

/-- The cool-until of a head once a joint of it has ended its attempt. -/
def State.coolAfter (s : State) (o : Order) (h : HeadId) (postDwell : Nat) : Option Time :=
  if 0 < postDwell ∧ (o.front h).isSome then some (s.now + BitVec.ofNat 32 postDwell) else (s.head h).coolUntil

theorem State.setCoolUntil_eq {s : State} {l : Lane} {k : SlotId} {o : Order} (ho : s.order l k = some o) (h : HeadId)
    (postDwell : Nat) :
    s.setCoolUntil l k h postDwell = s.setHead h ((s.head h).withCool (s.coolAfter o h postDwell)) := by
  unfold State.setCoolUntil State.coolAfter
  rw [ho]
  dsimp only
  split
  · rfl
  · exact (s.setHead_self h).symm

/-! ### The halted-joint list grows (R105, R165) -/

/-- The joint joins the halted-joint list where its attempt's result halts it. -/
def State.joinIf (s : State) (next : AfterAttempt) (l : Lane) (k : SlotId) (i : Nat) : State :=
  if next = .halted then s.joinHalted l k i else s

section
variable (s : State) (next : AfterAttempt) (l : Lane) (k : SlotId) (i : Nat)

theorem State.joinIf_other (h : next ≠ .halted) : s.joinIf next l k i = s := if_neg h

theorem State.joinIf_more (hnext : next = .halted) (hlist : (s.om l).halted ≠ []) :
    s.joinIf next l k i = s.setOm l ((s.om l).withHalted ((s.om l).halted ++ [i])) := by
  rw [State.joinIf, if_pos hnext, State.joinHalted, if_neg (by simpa using hlist)]
  rfl

variable {k} in
theorem State.joinIf_first {o : Order} (ho : s.order l k = some o) (hnext : next = .halted)
    (hlist : (s.om l).halted = []) : s.joinIf next l k i =
      (((s.setOm l ((s.om l).withHalted [i])).setSlot l k (some { o with state := .halted })).setUnit (lanePort l)
        { s.unit (lanePort l) with halted := true }).liftStays (s.ofLane l) := by
  have horder : (s.setOm l ((s.om l).withHalted [i])).order l k = some o := by
    rw [State.order_setOm, if_pos rfl]
    exact ho
  have hjoined : (s.om l).withHalted ((s.om l).halted ++ [i]) = (s.om l).withHalted [i] := by rw [hlist]; rfl
  rw [State.joinIf, if_pos hnext, State.joinHalted, if_pos (by rw [hlist]; rfl)]
  have hom : (s.modOm l fun om => { om with halted := om.halted ++ [i] }) = s.setOm l ((s.om l).withHalted [i]) := by
    rw [← hjoined]
    rfl
  rw [hom, State.modOrder_of_order horder]
  rfl

theorem State.halted_joinIf : ((s.joinIf next l k i).om l).halted =
    if next = .halted then (s.om l).halted ++ [i] else (s.om l).halted := by
  by_cases hnext : next = .halted
  · rw [if_pos hnext, State.joinIf, if_pos hnext, State.joinHalted]
    have hkept : ∀ t : State, (t.om l).halted = (s.om l).halted ++ [i] →
        ((((t.modOrder l k fun o => { o with state := .halted }).reportHalted l true).liftStays (s.ofLane l)).om
          l).halted = (s.om l).halted ++ [i] := fun t ht => by
      have hmod : ((t.modOrder l k fun o => { o with state := .halted }).om l).halted = (t.om l).halted := by
        unfold State.modOrder
        split
        · simp [State.om_setSlot]
        · rfl
      exact hmod.trans ht
    have hfirst : ((s.modOm l fun om => { om with halted := om.halted ++ [i] }).om l).halted =
        (s.om l).halted ++ [i] := by simp
    split
    · exact hkept _ hfirst
    · exact hfirst
  · rw [if_neg hnext, State.joinIf_other _ _ _ _ _ hnext]

variable {k} in
theorem State.order_joinIf {o : Order} (ho : s.order l k = some o) : (s.joinIf next l k i).order l k =
    some { o with state := if next = .halted ∧ (s.om l).halted = [] then .halted else o.state } := by
  by_cases hnext : next = .halted
  · by_cases hlist : (s.om l).halted = []
    · rw [State.joinIf_first s next l i ho hnext hlist, if_pos ⟨hnext, hlist⟩]
      have hkept : ∀ (t : State) w, (t.liftStays w).order l k = t.order l k := fun _ _ => rfl
      rw [hkept, (State.reads_setUnit _ _ _).2.2.2.2.2.1, State.order_setSlot, if_pos ⟨rfl, rfl⟩]
    · rw [State.joinIf_more s next l k i hnext hlist, if_neg fun h => hlist h.2, State.order_setOm, if_pos rfl]
      exact ho
  · rw [State.joinIf_other _ _ _ _ _ hnext, if_neg fun h => hnext h.1]
    exact ho

variable {k} in
/-- Where the list was empty, the order halts: its lane port is told, and the stays of the lane's heads are lifted. -/
theorem State.joinIf_halts {o : Order} (ho : s.order l k = some o) (hnext : next = .halted)
    (hlist : (s.om l).halted = []) :
    (∀ p, (s.joinIf next l k i).unit p = if p = lanePort l then { s.unit p with halted := true } else s.unit p) ∧
      (∀ c, (s.joinIf next l k i).stay c = (s.stay c).filter fun h => (s.head h).lane != some l) ∧
      (s.joinIf next l k i).arbiter = { s.arbiter with stays := (s.joinIf next l k i).arbiter.stays } := by
  rw [State.joinIf_first s next l i ho hnext hlist]
  refine ⟨fun p => ?_, fun c => ?_, ?_⟩
  · have hkept : ∀ (t : State) w, (t.liftStays w).unit p = t.unit p := fun _ _ => rfl
    rw [hkept, State.unit_setUnit]
    split
    · rename_i hp
      rw [hp]
    · rfl
  · rw [State.stay_liftStays]
    rfl
  · rw [State.arbiter_liftStays]
    rfl

theorem State.joinIf_stays (h : ¬ (next = .halted ∧ (s.om l).halted = [])) :
    (s.joinIf next l k i).units = s.units ∧ (s.joinIf next l k i).arbiter = s.arbiter := by
  by_cases hnext : next = .halted
  · rw [State.joinIf_more s next l k i hnext fun hlist => h ⟨hnext, hlist⟩]
    exact ⟨rfl, rfl⟩
  · rw [State.joinIf_other _ _ _ _ _ hnext]
    exact ⟨rfl, rfl⟩

variable {k} in
theorem State.joinIf_blocks {o : Order} (ho : s.order l k = some o) : (s.joinIf next l k i).heads = s.heads ∧
    (s.joinIf next l k i).channels = s.channels ∧ (s.joinIf next l k i).rings = s.rings ∧
    (s.joinIf next l k i).recipes = s.recipes ∧ (s.joinIf next l k i).faults = s.faults ∧
    (s.joinIf next l k i).cabinet = s.cabinet ∧ (s.joinIf next l k i).ports = s.ports := by
  by_cases hnext : next = .halted
  · by_cases hlist : (s.om l).halted = []
    · rw [State.joinIf_first s next l i ho hnext hlist]
      simp [State.liftStays, State.setSlot]
    · rw [State.joinIf_more s next l k i hnext hlist]
      simp
  · rw [State.joinIf_other _ _ _ _ _ hnext]
    simp
end

/-! ### The result taken -/

/-- What the result makes of the joint, by the lane policy. -/
def State.resultOf (s : State) (a : Attempt) (res : AttemptResult) (o : Order) (j : Joint) : AfterAttempt :=
  afterAttempt (s.om a.lane).policy o j (s.recipe a.recipe) res

/-- The joint and its head after the first two steps of R101. -/
def State.jointJudged (s : State) (a : Attempt) (o1 : Order) : State :=
  (s.setSlot a.lane a.slot (some o1)).setHead a.head
    ((s.head a.head).withCool (s.coolAfter o1 a.head (s.recipe a.recipe).postDwell))

/-- The state between the result and the near-done test. -/
def State.resultTaken (s : State) (a : Attempt) (next : AfterAttempt) (o1 : Order) : State :=
  ((s.jointJudged a o1).frontArrival a.lane a.head).joinIf next a.lane a.slot a.joint

theorem State.takeResult_eq {s : State} {a : Attempt} {o : Order} {j : Joint} (ho : s.order a.lane a.slot = some o)
    (hj : o.joints[a.joint]? = some j) (res : AttemptResult) : s.takeResult a res =
      ((s.resultTaken a (s.resultOf a res o j)
        (o.modJoint a.joint fun x => x.after (s.resultOf a res o j))).nearDoneTest a.lane).completionCheck a.lane := by
  unfold State.takeResult State.resultTaken
  rw [ho]
  dsimp only
  rw [hj]
  dsimp only
  have hnext : afterAttempt (s.om a.lane).policy o j (s.recipe a.recipe) res = s.resultOf a res o j := rfl
  rw [hnext]
  generalize s.resultOf a res o j = next
  have hjudged : (s.modJoint a.lane a.slot a.joint fun x => x.after next).setCoolUntil a.lane a.slot a.head
      (s.recipe a.recipe).postDwell = s.jointJudged a (o.modJoint a.joint fun x => x.after next) := by
    have hslot : (s.setSlot a.lane a.slot (some (o.modJoint a.joint fun x => x.after next))).order a.lane a.slot =
        some (o.modJoint a.joint fun x => x.after next) := by
      rw [State.order_setSlot, if_pos ⟨rfl, rfl⟩]
    rw [State.modJoint_of_order ho, State.setCoolUntil_eq hslot]
    rfl
  rw [hjudged]
  rfl

section
variable {s : State} {a : Attempt} (o1 : Order)

theorem State.order_jointJudged : (s.jointJudged a o1).order a.lane a.slot = some o1 := by
  rw [State.jointJudged, (State.reads_setHead _ _ _).2.2.2.2.2.1, State.order_setSlot, if_pos ⟨rfl, rfl⟩]

theorem State.head_jointJudged (h : HeadId) : (s.jointJudged a o1).head h = if h = a.head then
    (s.head a.head).withCool (s.coolAfter o1 a.head (s.recipe a.recipe).postDwell) else s.head h := by
  rw [State.jointJudged, State.head_setHead]
  rfl

theorem State.om_jointJudged : ((s.jointJudged a o1).om a.lane).halted = (s.om a.lane).halted := by
  simp [State.jointJudged, State.om_setSlot]

theorem State.jointJudged_blocks : (s.jointJudged a o1).channels = s.channels ∧ (s.jointJudged a o1).rings = s.rings ∧
    (s.jointJudged a o1).recipes = s.recipes ∧ (s.jointJudged a o1).units = s.units ∧
    (s.jointJudged a o1).arbiter = s.arbiter ∧ (s.jointJudged a o1).faults = s.faults ∧
    (s.jointJudged a o1).cabinet = s.cabinet ∧ (s.jointJudged a o1).ports = s.ports := by
  simp [State.jointJudged, State.setSlot]

theorem State.active_jointJudged {o : Order} (hactive : s.active a.lane = some (a.slot, o))
    (hstate : o1.state = o.state) : (s.jointJudged a o1).active a.lane = some (a.slot, o1) := by
  refine State.active_of_slot hactive (State.order_jointJudged o1) (hstate ▸ (State.order_of_active hactive).2)
    fun n hn => ?_
  rw [State.jointJudged, (State.reads_setHead _ _ _).2.2.2.2.2.1, State.order_setSlot, if_neg fun h => hn h.2]
end

/-- The lane's active order, with the front of the head arrived. -/
theorem State.frontArrival_jointJudged {s : State} {a : Attempt} {o o1 : Order}
    (hactive : s.active a.lane = some (a.slot, o)) (hstate : o1.state = o.state) :
    ((s.jointJudged a o1).frontArrival a.lane a.head).order a.lane a.slot =
        some (o1.arrived [a.head] (s.jointJudged a o1).latch) ∧
      (((s.jointJudged a o1).frontArrival a.lane a.head).head a.head).cueLatch =
        o1.latchAfter a.head (s.head a.head).cueLatch := by
  have hlatch : (s.jointJudged a o1).latch a.head = (s.head a.head).cueLatch := by
    rw [State.latch, State.head_jointJudged, if_pos rfl]
    rfl
  rw [State.frontArrival_eq (State.active_jointJudged o1 hactive hstate), (State.reads_setHead _ _ _).2.2.2.2.2.1,
    State.order_setSlot, if_pos ⟨rfl, rfl⟩, State.head_setHead, if_pos rfl, hlatch]
  exact ⟨rfl, rfl⟩

theorem Joint.after_ne_pending (j : Joint) (next : AfterAttempt) : (j.after next).state ≠ .pending := by
  cases next with
  | outcome out => exact show JointState.done ≠ .pending by decide
  | cooling => exact show JointState.cooling ≠ .pending by decide
  | ready => exact show JointState.ready ≠ .pending by decide
  | halted => exact show JointState.halted ≠ .pending by decide

/-- What the arrival makes of the order, where the order may be another than the lane's active one. -/
structure ArrivedOrSame (o1 o3 : Order) : Prop where
  front : ∀ h', o3.frontIndex h' = o1.frontIndex h'
  joints : ∀ (n : Nat) (x : Joint), o1.joints[n]? = some x → x.state ≠ .pending → o3.joints[n]? = some x
  state : o3.state = o1.state

theorem arrivedOrSame {o1 o3 : Order} {h : HeadId} {latch : HeadId → Bool}
    (ho3 : o3 = o1 ∨ o3 = o1.arrived [h] latch) : ArrivedOrSame o1 o3 := by
  rcases ho3 with rfl | rfl
  · exact ⟨fun _ => rfl, fun _ _ hx _ => hx, rfl⟩
  · refine ⟨Order.frontIndex_arrived o1 [h] latch, fun n x hx hstate => ?_, rfl⟩
    rw [Order.getElem?_arrived, hx, Option.map_some, Order.arriveAt_of_ne_pending _ _ hstate]

/-! ### The cases of a result (R101, R104, R105) -/

section
variable {s : State} {a : Attempt} {o : Order} {j : Joint}

theorem Order.windingDown_eq_false : o.windingDown = false ↔ o.late = false ∧ o.discard = false ∧ o.abort = false := by
  simp [Order.windingDown, and_assoc]

theorem State.resultOf_other {res : AttemptResult} (h : res ≠ .shortfall) :
    s.resultOf a res o j = .outcome res.outcome := if_neg fun hc => h hc.1

theorem State.resultOf_final (h : o.late = true ∨ o.discard = true ∨ o.abort = true) :
    s.resultOf a .shortfall o j = .outcome .underheat := by
  refine if_neg fun hc => ?_
  obtain ⟨hlate, hdiscard, habort⟩ := Order.windingDown_eq_false.mp hc.2
  simp [hlate, hdiscard, habort] at h

theorem State.resultOf_shortfall (h : o.windingDown = false) : s.resultOf a .shortfall o j =
    match (s.om a.lane).policy with
    | .autoRetry =>
      if j.attempts < 1 + (s.recipe a.recipe).allowance then
        (if (s.recipe a.recipe).postDwell = 0 then .ready else .cooling) else .outcome .underheat
    | .autoSkip => .outcome .underheat
    | .halt => .halted := (if_pos ⟨rfl, h⟩).trans (by cases (s.om a.lane).policy <;> rfl)

theorem State.resultOf_eq_halted {res : AttemptResult} : s.resultOf a res o j = .halted ↔
    res = .shortfall ∧ o.late = false ∧ o.discard = false ∧ o.abort = false ∧ (s.om a.lane).policy = .halt := by
  constructor
  · intro hhalted
    by_cases hc : res = .shortfall ∧ o.windingDown = false
    · obtain ⟨rfl, hopen⟩ := hc
      obtain ⟨hlate, hdiscard, habort⟩ := Order.windingDown_eq_false.mp hopen
      refine ⟨rfl, hlate, hdiscard, habort, ?_⟩
      rw [State.resultOf_shortfall hopen] at hhalted
      cases hpolicy : (s.om a.lane).policy with
      | halt => rfl
      | autoSkip => rw [hpolicy] at hhalted; cases hhalted
      | autoRetry =>
        rw [hpolicy] at hhalted
        dsimp only at hhalted
        split_ifs at hhalted
    · have hother : s.resultOf a res o j = .outcome res.outcome := if_neg hc
      rw [hother] at hhalted
      cases hhalted
  · rintro ⟨rfl, hlate, hdiscard, habort, hpolicy⟩
    rw [State.resultOf_shortfall (Order.windingDown_eq_false.mpr ⟨hlate, hdiscard, habort⟩), hpolicy]
end

/-- What the statement says of the joint `j'`, the order state and the list, by the result. -/
theorem result_cases {s : State} {a : Attempt} {o : Order} {j : Joint} {res : AttemptResult} {halted : List Nat}
    {state : OrderState} {j' : Joint} (hj' : j' = j.after (s.resultOf a res o j))
    (hhalted : halted = if s.resultOf a res o j = .halted then (s.om a.lane).halted ++ [a.joint] else (s.om a.lane).halted)
    (hstate : state = if s.resultOf a res o j = .halted ∧ (s.om a.lane).halted = [] then .halted else o.state) :
    let r := s.recipe a.recipe
    let done (out : JointOutcome) : Prop := j' = { j with state := .done, outcome := some out }
    let stays : Prop := halted = (s.om a.lane).halted ∧ state = o.state
    (res = .good → done .good ∧ stays) ∧ (res = .overheat → done .overheat ∧ stays) ∧
      (res = .noLoad → done .noLoad ∧ stays) ∧ (res = .sensorLost → done .sensorLost ∧ stays) ∧
      (∀ cause, res = .faultAbort cause → done .faultAbort ∧ stays) ∧ (res = .aborted → done .aborted ∧ stays) ∧
      (res = .interrupted → done .interrupted ∧ stays) ∧
      (res = .shortfall → (o.late = true ∨ o.discard = true ∨ o.abort = true) → done .underheat ∧ stays) ∧
      (res = .shortfall → o.late = false → o.discard = false → o.abort = false →
        ((s.om a.lane).policy = .autoRetry → j.attempts < 1 + r.allowance →
          j' = { j with state := if r.postDwell = 0 then .ready else .cooling } ∧ stays) ∧
        ((s.om a.lane).policy = .autoRetry → 1 + r.allowance ≤ j.attempts → done .underheat ∧ stays) ∧
        ((s.om a.lane).policy = .autoSkip → done .underheat ∧ stays) ∧
        ((s.om a.lane).policy = .halt → j' = { j with state := .halted } ∧
          halted = (s.om a.lane).halted ++ [a.joint] ∧
          state = (if (s.om a.lane).halted = [] then .halted else o.state))) := by
  dsimp only
  generalize hnext : s.resultOf a res o j = next at hj' hhalted hstate
  have houtcome : ∀ out, s.resultOf a res o j = .outcome out →
      j' = { j with state := .done, outcome := some out } ∧ halted = (s.om a.lane).halted ∧ state = o.state :=
    fun out hout => by
      obtain rfl : next = .outcome out := hnext.symm.trans hout
      exact ⟨hj', hhalted.trans (if_neg nofun), hstate.trans (if_neg fun h => nomatch h.1)⟩
  have hother : res ≠ .shortfall → j' = { j with state := .done, outcome := some res.outcome } ∧
      halted = (s.om a.lane).halted ∧ state = o.state := fun hne => houtcome _ (State.resultOf_other hne)
  refine ⟨fun h => ?_, fun h => ?_, fun h => ?_, fun h => ?_, fun cause h => ?_, fun h => ?_, fun h => ?_,
    fun h hfinal => ?_, fun h hlate hdiscard habort => ?_⟩
  iterate 7
    · subst h
      exact hother (by simp)
  · subst h
    exact houtcome _ (State.resultOf_final hfinal)
  · subst h
    have hshort := State.resultOf_shortfall (s := s) (a := a) (j := j)
      (Order.windingDown_eq_false.mpr ⟨hlate, hdiscard, habort⟩)
    refine ⟨fun hpolicy hless => ?_, fun hpolicy hmore => houtcome _ ?_, fun hpolicy => houtcome _ ?_, fun hpolicy => ?_⟩
    · rw [hpolicy] at hshort
      dsimp only at hshort
      rw [if_pos hless, hnext] at hshort
      have hne : next ≠ .halted := by
        rw [hshort]
        split <;> decide
      refine ⟨?_, hhalted.trans (if_neg hne), hstate.trans (if_neg fun h => hne h.1)⟩
      rw [hj', hshort]
      split <;> rfl
    · rw [hshort, hpolicy]
      exact if_neg (Nat.not_lt.mpr hmore)
    · rw [hshort, hpolicy]
    · obtain rfl : next = .halted := hnext.symm.trans (hshort.trans (by rw [hpolicy]))
      refine ⟨hj', hhalted.trans (if_pos rfl), hstate.trans ?_⟩
      simp

section
variable {s : State} {a : Attempt} {next : AfterAttempt} {o1 o3 : Order}

/-- The order after the result, by what the arrival made of it. -/
def Order.afterResult (o3 : Order) (next : AfterAttempt) (halted : List Nat) : Order :=
  { o3 with state := if next = .halted ∧ halted = [] then .halted else o3.state }

theorem State.head_resultTaken (ho3 : ((s.jointJudged a o1).frontArrival a.lane a.head).order a.lane a.slot = some o3) :
    (∀ h, h ≠ a.head → (s.resultTaken a next o1).head h = s.head h) ∧
      (s.resultTaken a next o1).head a.head = { s.head a.head with
        cueLatch := ((s.resultTaken a next o1).head a.head).cueLatch
        coolUntil := ((s.resultTaken a next o1).head a.head).coolUntil } ∧
      ((s.resultTaken a next o1).head a.head).coolUntil = s.coolAfter o1 a.head (s.recipe a.recipe).postDwell ∧
      ((s.resultTaken a next o1).head a.head).cueLatch =
        (((s.jointJudged a o1).frontArrival a.lane a.head).head a.head).cueLatch := by
  obtain ⟨b, hb⟩ := (s.jointJudged a o1).head_frontArrival a.lane a.head
  have hkept : ∀ h, (s.resultTaken a next o1).head h = ((s.jointJudged a o1).frontArrival a.lane a.head).head h :=
    State.head_congr (State.joinIf_blocks _ next a.lane a.joint ho3).1
  refine ⟨fun h hne => ?_, ?_, ?_, congrArg HeadRec.cueLatch (hkept a.head)⟩
  · rw [hkept, hb, if_neg hne, State.head_jointJudged, if_neg hne]
  · rw [hkept, hb, if_pos rfl, State.head_jointJudged, if_pos rfl]
    rfl
  · rw [hkept, hb, if_pos rfl, State.head_jointJudged, if_pos rfl]
    rfl

theorem State.resultTaken_blocks
    (ho3 : ((s.jointJudged a o1).frontArrival a.lane a.head).order a.lane a.slot = some o3) :
    (s.resultTaken a next o1).channels = s.channels ∧ (s.resultTaken a next o1).rings = s.rings ∧
      (s.resultTaken a next o1).recipes = s.recipes ∧ (s.resultTaken a next o1).faults = s.faults ∧
      (s.resultTaken a next o1).cabinet = s.cabinet ∧ (s.resultTaken a next o1).ports = s.ports := by
  obtain ⟨-, hchannels, hrings, hrecipes, hfaults, hcabinet, hports⟩ := State.joinIf_blocks _ next a.lane a.joint ho3
  obtain ⟨hchannels2, hrings2, hrecipes2, -, -, hfaults2, hcabinet2, hports2⟩ :=
    (s.jointJudged a o1).frontArrival_blocks a.lane a.head
  obtain ⟨hchannels1, hrings1, hrecipes1, -, -, hfaults1, hcabinet1, hports1⟩ := s.jointJudged_blocks (a := a) o1
  exact ⟨hchannels.trans (hchannels2.trans hchannels1), hrings.trans (hrings2.trans hrings1),
    hrecipes.trans (hrecipes2.trans hrecipes1), hfaults.trans (hfaults2.trans hfaults1),
    hcabinet.trans (hcabinet2.trans hcabinet1), hports.trans (hports2.trans hports1)⟩

/-- The halted-joint list before the result's joint joins it. -/
theorem State.halted_beforeJoin :
    (((s.jointJudged a o1).frontArrival a.lane a.head).om a.lane).halted = (s.om a.lane).halted := by
  rw [State.om_frontArrival]
  exact State.om_jointJudged o1

theorem State.order_resultTaken
    (ho3 : ((s.jointJudged a o1).frontArrival a.lane a.head).order a.lane a.slot = some o3) :
    (s.resultTaken a next o1).order a.lane a.slot = some (o3.afterResult next (s.om a.lane).halted) := by
  rw [State.resultTaken, State.order_joinIf _ _ _ _ ho3, State.halted_beforeJoin]
  rfl

theorem State.halted_resultTaken : ((s.resultTaken a next o1).om a.lane).halted =
    if next = .halted then (s.om a.lane).halted ++ [a.joint] else (s.om a.lane).halted := by
  rw [State.resultTaken, State.halted_joinIf, State.halted_beforeJoin]

/-- The report and the lifting of the stays, where the result's joint is the first of the list. -/
theorem State.resultTaken_halts
    (ho3 : ((s.jointJudged a o1).frontArrival a.lane a.head).order a.lane a.slot = some o3)
    (hhalts : next = .halted ∧ (s.om a.lane).halted = []) :
    (∀ p, (s.resultTaken a next o1).unit p = if p = lanePort a.lane then { s.unit p with halted := true } else s.unit p) ∧
      (∀ c, (s.resultTaken a next o1).stay c = (s.stay c).filter fun h => (s.head h).lane != some a.lane) ∧
      (s.resultTaken a next o1).arbiter = { s.arbiter with stays := (s.resultTaken a next o1).arbiter.stays } := by
  obtain ⟨hunit, hstay, harbiter⟩ := State.joinIf_halts _ next a.lane a.joint ho3 hhalts.1
    (State.halted_beforeJoin.trans hhalts.2)
  obtain ⟨-, -, -, hunits2, harbiter2, -, -, -⟩ := (s.jointJudged a o1).frontArrival_blocks a.lane a.head
  obtain ⟨-, -, -, hunits1, harbiter1, -, -, -⟩ := s.jointJudged_blocks (a := a) o1
  have hunits := State.unit_congr (hunits2.trans hunits1)
  have hlane : ∀ h, (((s.jointJudged a o1).frontArrival a.lane a.head).head h).lane = (s.head h).lane := fun h => by
    obtain ⟨b, hb⟩ := (s.jointJudged a o1).head_frontArrival a.lane a.head
    rw [hb]
    by_cases hh : h = a.head
    · rw [if_pos hh, State.head_jointJudged, if_pos rfl, hh]
      rfl
    · rw [if_neg hh, State.head_jointJudged, if_neg hh]
  have hstays : ∀ c, ((s.jointJudged a o1).frontArrival a.lane a.head).stay c = s.stay c := fun c => by
    rw [State.stay, harbiter2, harbiter1]
    rfl
  refine ⟨fun p => ?_, fun c => ?_, ?_⟩
  · rw [State.resultTaken, hunit, hunits]
  · rw [State.resultTaken, hstay, hstays]
    simp only [hlane]
  · rw [harbiter2, harbiter1] at harbiter
    exact harbiter

theorem State.resultTaken_stays (hstays : ¬ (next = .halted ∧ (s.om a.lane).halted = [])) :
    (s.resultTaken a next o1).units = s.units ∧ (s.resultTaken a next o1).arbiter = s.arbiter := by
  obtain ⟨hunits, harbiter⟩ := State.joinIf_stays ((s.jointJudged a o1).frontArrival a.lane a.head) next a.lane a.slot
    a.joint (by rwa [State.halted_beforeJoin])
  obtain ⟨-, -, -, hunits2, harbiter2, -, -, -⟩ := (s.jointJudged a o1).frontArrival_blocks a.lane a.head
  obtain ⟨-, -, -, hunits1, harbiter1, -, -, -⟩ := s.jointJudged_blocks (a := a) o1
  exact ⟨hunits.trans (hunits2.trans hunits1), harbiter.trans (harbiter2.trans harbiter1)⟩
end

/-- In the active order the next joint of the head arrives, with the head's latch. -/
theorem arrival_cases {o o1 : Order} {h : HeadId} {latch : HeadId → Bool} {i : Nat}
    (hother : ∀ n, n ≠ i → o1.joints[n]? = o.joints[n]?)
    (hself : ∀ x, o1.joints[i]? = some x → x.state ≠ .pending) :
    (∀ (n : Nat) (x : Joint), n ≠ i → o.joints[n]? = some x →
        ((x.state ≠ .pending ∨ ∀ y, (o1.arrived [h] latch).front h ≠ some (n, y)) →
          (o1.arrived [h] latch).joints[n]? = some x) ∧
        (x.state = .pending → (∃ y, (o1.arrived [h] latch).front h = some (n, y)) →
          (o1.arrived [h] latch).joints[n]? =
            some { x with state := if x.cue = true ∧ latch h = false then .cueWait else .ready } ∧
          o1.latchAfter h (latch h) = (latch h && !x.cue))) ∧
      ((∀ (n : Nat) (x y : Joint), n ≠ i → o.joints[n]? = some x → (o1.arrived [h] latch).front h = some (n, y) →
          x.state ≠ .pending) → o1.latchAfter h (latch h) = latch h) := by
  refine ⟨fun n x hn hx => ⟨fun hkept => ?_, fun hstate ⟨y, hy⟩ => ?_⟩, fun hnone => ?_⟩
  · have hx1 := (hother n hn).trans hx
    rw [Order.getElem?_arrived, hx1, Option.map_some]
    rcases hkept with hstate | hnot
    · rw [Order.arriveAt_of_ne_pending _ _ hstate]
    · rw [Order.arriveAt_of_not_front hx1 hnot]
  · have hx1 := (hother n hn).trans hx
    obtain ⟨hfront, -⟩ := Order.front_of_arrived hx1 hy
    rw [Order.getElem?_arrived, hx1, Option.map_some, Order.arriveAt_front _ _ hfront List.mem_cons_self hstate,
      Order.latchAfter_front hfront, if_pos hstate]
    exact ⟨rfl, rfl⟩
  · cases hfront : o1.front h with
    | none => exact Order.latchAfter_none hfront _
    | some p =>
      obtain ⟨n, x⟩ := p
      obtain ⟨hindex, hx⟩ := Order.front_eq_some.mp hfront
      rw [Order.latchAfter_front hfront]
      refine if_neg ?_
      by_cases hn : n = i
      · exact hself x (hn ▸ hx)
      · refine hnone n x (o1.arriveAt [h] latch n x) hn ((hother n hn).symm.trans hx) (Order.front_eq_some.mpr ⟨?_, ?_⟩)
        · rw [Order.frontIndex_arrived, hindex]
        · rw [Order.getElem?_arrived, hx, Option.map_some]

/-- Settles O44: the joint by the result and the policy, the cool-until, the arrival, the list and its reports. -/
theorem attemptResultsAreTakenUnderPolicy : Obligations.AttemptResultsAreTakenUnderPolicy := by
  intro a res o j s ho hj
  generalize hnext : s.resultOf a res o j = next
  have hget := Order.getElem?_modJoint hj fun x => x.after next
  generalize ho1 : (o.modJoint a.joint fun x => x.after next) = o1 at hget
  have hstate1 : o1.state = o.state := by rw [← ho1]; rfl
  obtain ⟨o3, ho3, hcases⟩ := (s.jointJudged a o1).order_frontArrival a.lane a.head (State.order_jointJudged o1)
  have harrived := arrivedOrSame hcases
  obtain ⟨hheads, hhead, hcool, hlatch⟩ := State.head_resultTaken (next := next) ho3
  obtain ⟨hchannels, hrings, hrecipes, hfaults, hcabinet, hports⟩ := State.resultTaken_blocks (next := next) ho3
  have hself : o1.joints[a.joint]? = some (j.after next) := (hget _).trans (if_pos rfl)
  have hfront : (o1.front a.head).isSome = true ↔
      ∃ x ∈ (o3.afterResult next (s.om a.lane).halted).joints, x.head = a.head ∧ x.outcome = none := by
    rw [← Order.frontIndex_isSome (o := o3.afterResult next (s.om a.lane).halted)]
    have hindex : (o3.afterResult next (s.om a.lane).halted).frontIndex a.head = o1.frontIndex a.head :=
      harrived.front a.head
    rw [hindex]
    cases hfront1 : o1.front a.head with
    | none => simp only [Order.front_eq_none.mp hfront1, Option.isSome_none]
    | some p => simp only [(Order.front_eq_some.mp hfront1).1, Option.isSome_some]
  have hhalts : (next = .halted ∧ (s.om a.lane).halted = []) ↔ (res = .shortfall ∧ o.late = false ∧
      o.discard = false ∧ o.abort = false ∧ (s.om a.lane).policy = .halt ∧ (s.om a.lane).halted = []) := by
    rw [← hnext, State.resultOf_eq_halted]
    simp only [and_assoc]
  obtain ⟨c1, c2, c3, c4, c5, c6, c7, c8, c9⟩ := result_cases (s := s) (a := a) (o := o) (j := j) (res := res) rfl
    (hnext ▸ State.halted_resultTaken (s := s) (a := a) (next := next) (o1 := o1))
    (state := (o3.afterResult next (s.om a.lane).halted).state)
    (by rw [hnext, Order.afterResult, harrived.state, hstate1])
  rw [hnext] at c1 c2 c3 c4 c5 c6 c7 c8 c9
  refine ⟨s.resultTaken a next o1, o3.afterResult next (s.om a.lane).halted, j.after next, ?_,
    State.order_resultTaken ho3, harrived.joints _ _ hself (j.after_ne_pending next), c1, c2, c3, c4, c5, c6, c7, c8, c9,
    ⟨fun h => State.resultTaken_halts ho3 (hhalts.mpr h), fun h => State.resultTaken_stays fun h' => h (hhalts.mp h')⟩,
    fun h => ?_, fun h => ?_, fun hactive => ?_, hhead, hheads, hchannels, hrings, hrecipes, hfaults, hcabinet, hports⟩
  · rw [State.takeResult_eq ho hj, hnext, ho1]
  · rw [hcool, State.coolAfter, if_pos ⟨h.1, hfront.mpr h.2⟩]
  · rw [hcool, State.coolAfter, if_neg fun h' => h ⟨h'.1, hfront.mp h'.2⟩]
  · obtain ⟨horder, hlatchAfter⟩ := State.frontArrival_jointJudged hactive hstate1
    obtain rfl := Option.some.inj (ho3.symm.trans horder)
    have hlatchKept : (s.jointJudged a o1).latch a.head = (s.head a.head).cueLatch := by
      rw [State.latch, State.head_jointJudged, if_pos rfl]
      rfl
    have harrival := arrival_cases (o := o) (h := a.head) (latch := (s.jointJudged a o1).latch) (i := a.joint)
      (fun n hn => (hget n).trans (if_neg hn))
      fun x hx => Option.some.inj (hself.symm.trans hx) ▸ j.after_ne_pending next
    rw [hlatchKept] at harrival
    rw [hlatch, hlatchAfter]
    exact harrival

end Sys2Proof.Machine
end

section
/-! PROOF. The start of the oldest posted order (R7, R8, R16). -/

namespace Sys2Proof.Machine

/-! ### The near-done test in closed form (R16) -/

/-- The order with the near-done mark given. -/
def Order.withNearDone (o : Order) (b : Bool) : Order := { o with nearDone := b }

/-- The unit with the near-done context given. -/
def EventUnit.withNearDone (u : EventUnit) (c : Option Context) : EventUnit := { u with nearDone := c }

/-- The near-done test writes the order's mark and its lane port's context, and only where it is due. -/
theorem State.nearDoneTest_eq {s : State} {l : Lane} {k : SlotId} {o : Order} (hactive : s.active l = some (k, o)) :
    ∃ b c, s.nearDoneTest l = (s.setSlot l k (some (o.withNearDone b))).setUnit (lanePort l)
        ((s.unit (lanePort l)).withNearDone c) ∧
      (s.nearDoneDue l o → b = true ∧ c = some (orderContext l k o)) ∧
      (¬ s.nearDoneDue l o → b = o.nearDone ∧ c = (s.unit (lanePort l)).nearDone) := by
  by_cases hdue : s.nearDoneDue l o
  · refine ⟨true, some (orderContext l k o), ?_, fun _ => ⟨rfl, rfl⟩, fun h => absurd hdue h⟩
    rw [State.nearDoneTest_due hactive hdue]
    rfl
  · refine ⟨o.nearDone, (s.unit (lanePort l)).nearDone, ?_, fun h => absurd h hdue, fun _ => ⟨rfl, rfl⟩⟩
    have hslot : s.setSlot l k (some (o.withNearDone o.nearDone)) = s :=
      s.setSlot_self (State.order_of_active hactive).1
    rw [State.nearDoneTest_not_due hactive hdue, hslot]
    exact (s.setUnit_self (lanePort l)).symm

/-! ### The arrivals at the fronts of several heads (R9) -/

theorem Order.arrived_congr (o : Order) {h : HeadId} {latch latch' : HeadId → Bool} (heq : latch h = latch' h) :
    o.arrived [h] latch = o.arrived [h] latch' := by
  have harrive : o.arriveAt [h] latch = o.arriveAt [h] latch' := by
    funext n x
    unfold Order.arriveAt
    split
    · rename_i hx
      rw [List.mem_singleton.mp hx.1, heq]
    · rfl
  rw [Order.arrived, harrive]
  rfl

theorem Order.latchAfter_congr {o o' : Order} {h : HeadId} (hfront : o'.front h = o.front h) (b : Bool) :
    o'.latchAfter h b = o.latchAfter h b := by
  rw [Order.latchAfter, hfront]
  rfl

/-- The front joint of each head in turn arrives. -/
def State.arrivals (s : State) (l : Lane) (hs : List HeadId) : State := hs.foldl (fun t h => t.frontArrival l h) s

theorem State.arrivals_concat (s : State) (l : Lane) (hs : List HeadId) (h : HeadId) :
    s.arrivals l (hs ++ [h]) = (s.arrivals l hs).frontArrival l h := List.foldl_concat _ _ _ _

section
variable {s : State} {l : Lane} {k : SlotId} {o : Order} (hactive : s.active l = some (k, o))
include hactive

theorem State.arrivals_writes {hs : List HeadId} (hnodup : hs.Nodup) :
    (∀ m n, (s.arrivals l hs).order m n = if m = l ∧ n = k then some (o.arrived hs s.latch) else s.order m n) ∧
      ∀ h, (s.arrivals l hs).head h =
        if h ∈ hs then (s.head h).withLatch (o.latchAfter h (s.latch h)) else s.head h := by
  have ho := State.order_of_active hactive
  induction hs using List.reverseRecOn with
  | nil =>
    refine ⟨fun m n => ?_, fun h => (if_neg List.not_mem_nil).symm⟩
    rw [Order.arrived_nil]
    split
    · rename_i hmn
      rw [hmn.1, hmn.2]
      exact ho.1
    · rfl
  | append_singleton hs h ih =>
    obtain ⟨hnodup', -, hfresh⟩ := List.nodup_append.mp hnodup
    have hmem : h ∉ hs := fun hin => hfresh h hin h List.mem_cons_self rfl
    obtain ⟨horder, hhead⟩ := ih hnodup'
    have hactive' : (s.arrivals l hs).active l = some (k, o.arrived hs s.latch) :=
      State.active_of_slot hactive ((horder l k).trans (if_pos ⟨rfl, rfl⟩)) ho.2
        fun n hn => (horder l n).trans (if_neg fun h => hn h.2)
    have hlatch : (s.arrivals l hs).latch h = s.latch h := by rw [State.latch, hhead, if_neg hmem]; rfl
    rw [State.arrivals_concat, State.frontArrival_eq hactive', Order.arrived_congr _ hlatch, Order.arrived_arrived,
      hlatch, hhead h, if_neg hmem, Order.latchAfter_congr (Order.front_arrived_of_not_mem hs s.latch hmem)]
    refine ⟨fun m n => ?_, fun h' => ?_⟩
    · rw [(State.reads_setHead _ _ _).2.2.2.2.2.1, State.order_setSlot]
      refine ite_congr rfl (fun _ => rfl) fun hne => ?_
      rw [horder, if_neg hne]
    · rw [State.head_setHead]
      by_cases hh : h' = h
      · subst hh
        rw [if_pos rfl, if_pos (List.mem_append_right _ List.mem_cons_self)]
      · rw [if_neg hh, (State.reads_setSlot _ _ _ _).2.1, hhead]
        refine if_congr ⟨List.mem_append_left _, fun hin => ?_⟩ rfl rfl
        exact (List.mem_append.mp hin).resolve_right fun hin' => hh (List.mem_singleton.mp hin')
end

theorem State.arrivals_keeps {α : Sort*} (v : State → α)
    (hv : ∀ (t : State) l h, v (t.frontArrival l h) = v t) (s : State) (l : Lane) (hs : List HeadId) :
    v (s.arrivals l hs) = v s := foldl_keeps (f := fun t h => t.frontArrival l h) (fun t h => hv t l h) hs s

theorem State.arrivals_blocks (s : State) (l : Lane) (hs : List HeadId) :
    (s.arrivals l hs).channels = s.channels ∧ (s.arrivals l hs).rings = s.rings ∧
      (s.arrivals l hs).recipes = s.recipes ∧ (s.arrivals l hs).units = s.units ∧
      (s.arrivals l hs).arbiter = s.arbiter ∧ (s.arrivals l hs).faults = s.faults ∧
      (s.arrivals l hs).cabinet = s.cabinet ∧ (s.arrivals l hs).ports = s.ports := by
  have hkept := State.arrivals_keeps (fun t => (t.channels, t.rings, t.recipes, t.units, t.arbiter, t.faults,
    t.cabinet, t.ports)) (fun t l h => by
      obtain ⟨h1, h2, h3, h4, h5, h6, h7, h8⟩ := t.frontArrival_blocks l h
      rw [h1, h2, h3, h4, h5, h6, h7, h8]) s l hs
  simpa only [Prod.mk.injEq] using hkept

/-- The Order Manager's fields besides the slots, and the other lane's whole Order Manager. -/
theorem State.om_arrivals (s : State) (l : Lane) (hs : List HeadId) :
    ((s.arrivals l hs).om l).released = (s.om l).released ∧ ((s.arrivals l hs).om l).deadline = (s.om l).deadline ∧
      ((s.arrivals l hs).om l).threshold = (s.om l).threshold ∧
      ((s.arrivals l hs).om l).halted = (s.om l).halted ∧ ((s.arrivals l hs).om l).postPtr = (s.om l).postPtr := by
  have hkept := foldl_keeps (f := fun t h => t.frontArrival l h) (v := fun t => ((t.om l).released, (t.om l).deadline,
    (t.om l).threshold, (t.om l).halted, (t.om l).postPtr)) (fun t h => by rw [t.om_frontArrival l h l]) hs s
  unfold State.arrivals
  simpa only [Prod.mk.injEq] using hkept

theorem State.om_frontArrival_other (s : State) {l m : Lane} (hm : m ≠ l) (h : HeadId) :
    (s.frontArrival l h).om m = s.om m := by
  cases hactive : s.active l with
  | none => rw [State.frontArrival_idle hactive]
  | some p =>
    rw [State.frontArrival_eq hactive]
    simp only [State.reads_setHead, State.om_setSlot, if_neg hm]

theorem State.om_arrivals_other (s : State) {l m : Lane} (hm : m ≠ l) (hs : List HeadId) :
    (s.arrivals l hs).om m = s.om m :=
  foldl_keeps (f := fun t h => t.frontArrival l h) (v := fun t => t.om m) (fun t h => t.om_frontArrival_other hm h) hs s

/-! ### The order that starts (R8) -/

/-- The order of steps 4 and 5 of R8: the joints of flagged heads skipped, the order RUNNING. -/
def State.startedOrder (s : State) (o : Order) : Order := { s.skipFlagged o with state := .running }

/-- The ring's reservation made and the order in its slot RUNNING, before any joint arrives at a front. -/
def State.started (s : State) (l : Lane) (k : SlotId) (o : Order) : State :=
  ((s.reserve l o.recordSize).modOm l fun om =>
    { om with released := om.released - 1, deadline := if o.deadline = 0 then none else some o.deadline }).setSlot l k
    (some (s.startedOrder o))

theorem State.activate_eq (s : State) (l : Lane) (k : SlotId) (o : Order) :
    s.activate l k o = ((s.started l k o).arrivals l allHeads).nearDoneTest l := rfl

theorem State.active_of_only {s : State} {l : Lane} {k : SlotId} {o : Order} (hk : s.order l k = some o)
    (hstate : o.state ≠ .posted) (hother : ∀ n x, n ≠ k → s.order l n = some x → x.state = .posted) :
    s.active l = some (k, o) := by
  cases hactive : s.active l with
  | none => exact absurd (State.posted_of_active_none hactive hk) hstate
  | some p =>
    obtain ⟨n, x⟩ := p
    obtain ⟨hx, hx'⟩ := State.order_of_active hactive
    by_cases hn : n = k
    · subst hn
      rw [Option.some.inj (hx.symm.trans hk)]
    · exact absurd (hother n x hn hx) hx'

section
variable (s : State) (l : Lane) (k : SlotId) (o : Order)

theorem State.order_started (m : Lane) (n : SlotId) : (s.started l k o).order m n =
    if m = l ∧ n = k then some (s.startedOrder o) else s.order m n := by
  have hkept : ∀ m' n', ((s.reserve l o.recordSize).modOm l fun om =>
      { om with released := om.released - 1, deadline := if o.deadline = 0 then none else some o.deadline }).order m' n' =
        s.order m' n' := fun m' n' => by
    rw [State.modOm_eq, State.order_setOm]
    split
    · rename_i hm
      rw [hm]
      rfl
    · rfl
  rw [State.started, State.order_setSlot, hkept]

theorem State.om_started : ((s.started l k o).om l).released = (s.om l).released - 1 ∧
    ((s.started l k o).om l).deadline = (if o.deadline = 0 then none else some o.deadline) ∧
    ((s.started l k o).om l).threshold = (s.om l).threshold ∧ ((s.started l k o).om l).halted = (s.om l).halted ∧
    ((s.started l k o).om l).postPtr = (s.om l).postPtr := by
  simp [State.started, State.om_setSlot, State.reserve]

theorem State.started_other {m : Lane} (hm : m ≠ l) :
    (s.started l k o).om m = s.om m ∧ (s.started l k o).ring m = s.ring m := by
  simp [State.started, State.reserve, State.setSlot, hm]

theorem State.ring_started : (s.started l k o).ring l =
    { s.ring l with reserved := (s.ring l).reserved + (6 + o.joints.length) } := by
  simp [State.started, State.reserve, State.setSlot, Order.recordSize]

theorem State.started_blocks : (s.started l k o).heads = s.heads ∧ (s.started l k o).channels = s.channels ∧
    (s.started l k o).recipes = s.recipes ∧ (s.started l k o).units = s.units ∧
    (s.started l k o).arbiter = s.arbiter ∧ (s.started l k o).faults = s.faults ∧
    (s.started l k o).cabinet = s.cabinet ∧ (s.started l k o).ports = s.ports := by
  simp [State.started, State.reserve, State.setSlot]

variable {s l}

theorem State.active_started (hactive : s.active l = none) :
    (s.started l k o).active l = some (k, s.startedOrder o) := by
  refine State.active_of_only ((s.order_started l k o l k).trans (if_pos ⟨rfl, rfl⟩))
    (show OrderState.running ≠ .posted by decide) fun n x hn hx => ?_
  rw [State.order_started, if_neg fun h => hn h.2] at hx
  exact State.posted_of_active_none hactive hx

theorem State.getElem?_startedOrder (n : Nat) : (s.startedOrder o).joints[n]? =
    (o.joints[n]?).map fun j => if (s.head j.head).health.any then j.giveOutcome .skippedHead else j :=
  List.getElem?_map
end

/-! ### The order once its first joints have arrived -/

/-- The order of R8 after step 6, before the near-done test. -/
def State.begun (s : State) (o : Order) : Order := (s.startedOrder o).arrived allHeads s.latch

theorem mem_allHeads (h : HeadId) : h ∈ allHeads := List.mem_finRange h

theorem nodup_allHeads : allHeads.Nodup := List.nodup_finRange 16

section
variable {s : State} {o : Order}

theorem State.begun_joint {i : Nat} {j : Joint} (hj : o.joints[i]? = some j) :
    ∃ j', (s.begun o).joints[i]? = some j' ∧ j'.head = j.head ∧ j'.attempts = j.attempts ∧
      ((s.head j.head).health.any = true → j'.state = .done ∧ j'.outcome = some .skippedHead) ∧
      ((s.head j.head).health.any = false → j'.outcome = j.outcome ∧
        ((∀ x, (s.begun o).front j.head ≠ some (i, x)) → j' = j)) := by
  have hget := s.getElem?_startedOrder o i
  rw [hj, Option.map_some] at hget
  cases hflag : (s.head j.head).health.any with
  | true =>
    rw [hflag, if_pos rfl] at hget
    refine ⟨j.giveOutcome .skippedHead, ?_, rfl, rfl, fun _ => ⟨rfl, rfl⟩, nofun⟩
    rw [State.begun, Order.getElem?_arrived, hget, Option.map_some,
      Order.arriveAt_of_ne_pending _ _ (show JointState.done ≠ .pending by decide)]
  | false =>
    rw [hflag, if_neg Bool.false_ne_true] at hget
    have hget' : (s.begun o).joints[i]? = some ((s.startedOrder o).arriveAt allHeads s.latch i j) := by
      rw [State.begun, Order.getElem?_arrived, hget, Option.map_some]
    have hkept := (s.startedOrder o).arriveAt_eq allHeads s.latch i j
    refine ⟨_, hget', by rw [hkept], by rw [hkept], nofun, fun _ => ⟨by rw [hkept], fun hnot => if_neg ?_⟩⟩
    rintro ⟨-, hindex, -⟩
    refine hnot _ (Order.front_eq_some.mpr ⟨?_, hget'⟩)
    rw [State.begun, Order.frontIndex_arrived, hindex]

/-- The front of a head in the begun order is the joint as posted, or its arrival. -/
theorem State.begun_front {h : HeadId} {i : Nat} {j x : Joint} (hfront : (s.begun o).front h = some (i, j))
    (hx : o.joints[i]? = some x) :
    (s.startedOrder o).front h = some (i, x) ∧ j = (s.startedOrder o).arriveAt allHeads s.latch i x := by
  obtain ⟨x1, hfront1, -, rfl⟩ := Order.front_arrived allHeads s.latch hfront
  obtain ⟨hindex, hget⟩ := Order.front_eq_some.mp hfront1
  obtain ⟨x2, hx2, -, hopen⟩ := Order.joint_of_frontIndex hindex
  have hx1 := s.getElem?_startedOrder o i
  rw [hx, Option.map_some, hget] at hx1
  have hsame : x1 = x := by
    obtain rfl : x2 = x1 := Option.some.inj (hx2.symm.trans hget)
    rw [Option.some.inj hx1] at hopen ⊢
    split at hopen
    · cases hopen
    · rename_i hflag
      exact if_neg hflag
  subst hsame
  exact ⟨hfront1, rfl⟩

theorem Order.front_none_of_allDone (h : HeadId) (hdone : o.allDone = true) : o.front h = none := by
  rw [Order.front_eq_none, ← Option.not_isSome_iff_eq_none, Order.frontIndex_isSome]
  rintro ⟨x, hx, -, hopen⟩
  have hsome := List.all_eq_true.mp hdone x hx
  rw [hopen] at hsome
  cases hsome
end

/-! ### The state once the first joints have arrived -/

/-- The state of R8 after step 6. -/
def State.underway (s : State) (l : Lane) (k : SlotId) (o : Order) : State := (s.started l k o).arrivals l allHeads

section
variable {s : State} {l : Lane} (hactive : s.active l = none) (k : SlotId) (o : Order)

theorem State.underway_blocks : (s.underway l k o).channels = s.channels ∧ (s.underway l k o).recipes = s.recipes ∧
    (s.underway l k o).units = s.units ∧ (s.underway l k o).arbiter = s.arbiter ∧
    (s.underway l k o).faults = s.faults ∧ (s.underway l k o).cabinet = s.cabinet ∧
    (s.underway l k o).ports = s.ports := by
  obtain ⟨hchannels, -, hrecipes, hunits, harbiter, hfaults, hcabinet, hports⟩ :=
    (s.started l k o).arrivals_blocks l allHeads
  obtain ⟨-, hchannels0, hrecipes0, hunits0, harbiter0, hfaults0, hcabinet0, hports0⟩ := s.started_blocks l k o
  exact ⟨hchannels.trans hchannels0, hrecipes.trans hrecipes0, hunits.trans hunits0, harbiter.trans harbiter0,
    hfaults.trans hfaults0, hcabinet.trans hcabinet0, hports.trans hports0⟩

theorem State.om_underway : ((s.underway l k o).om l).released = (s.om l).released - 1 ∧
    ((s.underway l k o).om l).deadline = (if o.deadline = 0 then none else some o.deadline) ∧
    ((s.underway l k o).om l).threshold = (s.om l).threshold ∧
    ((s.underway l k o).om l).postPtr = (s.om l).postPtr := by
  obtain ⟨hreleased, hdeadline, hthreshold, -, hptr⟩ := (s.started l k o).om_arrivals l allHeads
  obtain ⟨hreleased0, hdeadline0, hthreshold0, -, hptr0⟩ := s.om_started l k o
  exact ⟨hreleased.trans hreleased0, hdeadline.trans hdeadline0, hthreshold.trans hthreshold0, hptr.trans hptr0⟩

theorem State.ring_underway : (s.underway l k o).ring l =
    { s.ring l with reserved := (s.ring l).reserved + (6 + o.joints.length) } :=
  (State.ring_congr ((s.started l k o).arrivals_blocks l allHeads).2.1 l).trans (s.ring_started l k o)

theorem State.underway_other {m : Lane} (hm : m ≠ l) :
    (s.underway l k o).om m = s.om m ∧ (s.underway l k o).ring m = s.ring m :=
  ⟨((s.started l k o).om_arrivals_other hm allHeads).trans (s.started_other l k o hm).1,
    (State.ring_congr ((s.started l k o).arrivals_blocks l allHeads).2.1 m).trans (s.started_other l k o hm).2⟩

include hactive

theorem State.underway_writes :
    (∀ m n, (s.underway l k o).order m n = if m = l ∧ n = k then some (s.begun o) else s.order m n) ∧
      ∀ h, (s.underway l k o).head h = (s.head h).withLatch ((s.startedOrder o).latchAfter h (s.latch h)) := by
  have hhead := State.head_congr (s.started_blocks l k o).1
  have hlatch : (s.started l k o).latch = s.latch := funext fun h => congrArg HeadRec.cueLatch (hhead h)
  obtain ⟨horder, hheads⟩ := State.arrivals_writes (State.active_started k o hactive) nodup_allHeads
  rw [hlatch] at horder hheads
  refine ⟨fun m n => (horder m n).trans (ite_congr rfl (fun _ => rfl) fun hne => ?_), fun h => ?_⟩
  · rw [State.order_started, if_neg hne]
  · have hh := hheads h
    rw [if_pos (mem_allHeads h), hhead] at hh
    exact hh

theorem State.active_underway : (s.underway l k o).active l = some (k, s.begun o) := by
  obtain ⟨horder, -⟩ := State.underway_writes hactive k o
  refine State.active_of_slot (State.active_started k o hactive) ((horder l k).trans (if_pos ⟨rfl, rfl⟩))
    (show OrderState.running ≠ .posted by decide) fun n hn => ?_
  rw [horder, State.order_started]
  have hne : ¬ (l = l ∧ n = k) := fun h => hn h.2
  rw [if_neg hne, if_neg hne]

theorem State.head_underway_none {h : HeadId} (hfront : (s.begun o).front h = none) :
    (s.underway l k o).head h = s.head h := by
  rw [(State.underway_writes hactive k o).2, Order.latchAfter_none (Order.front_arrived_none _ _ hfront)]
  exact HeadRec.withLatch_self _

theorem State.head_underway_front {h : HeadId} {i : Nat} {j x : Joint} (hfront : (s.begun o).front h = some (i, j))
    (hx : o.joints[i]? = some x) :
    (x.state ≠ .pending → j = x ∧ (s.underway l k o).head h = s.head h) ∧
      (x.state = .pending →
        j = { x with state := if x.cue = true ∧ (s.head h).cueLatch = false then .cueWait else .ready } ∧
        (s.underway l k o).head h = { s.head h with cueLatch := (s.head h).cueLatch && !x.cue }) := by
  obtain ⟨hfront1, rfl⟩ := State.begun_front hfront hx
  rw [(State.underway_writes hactive k o).2, Order.latchAfter_front hfront1]
  refine ⟨fun hstate => ?_, fun hstate => ?_⟩
  · rw [Order.arriveAt_of_ne_pending _ _ hstate, if_neg hstate]
    exact ⟨rfl, HeadRec.withLatch_self _⟩
  · rw [Order.arriveAt_front _ _ hfront1 (mem_allHeads h) hstate, if_pos hstate]
    exact ⟨rfl, rfl⟩
end

/-! ### The state once the near-done test has been made -/

/-- The state of R8 after step 7, with the near-done mark and context given. -/
def State.activated (s : State) (l : Lane) (k : SlotId) (o : Order) (b : Bool) (c : Option Context) : State :=
  ((s.underway l k o).setSlot l k (some ((s.begun o).withNearDone b))).setUnit (lanePort l)
    ((s.unit (lanePort l)).withNearDone c)

section
variable {s : State} {l : Lane} (k : SlotId) (o : Order) (b : Bool) (c : Option Context)

theorem State.activate_eq_activated (hactive : s.active l = none) : ∃ b c, s.activate l k o = s.activated l k o b c ∧
    ((s.underway l k o).nearDoneDue l (s.begun o) → b = true ∧ c = some (orderContext l k o)) ∧
    (¬ (s.underway l k o).nearDoneDue l (s.begun o) → b = o.nearDone ∧ c = (s.unit (lanePort l)).nearDone) := by
  obtain ⟨b, c, heq, hdue, hnot⟩ := State.nearDoneTest_eq (State.active_underway hactive k o)
  have hunit := State.unit_congr (State.underway_blocks (s := s) (l := l) k o).2.2.1 (lanePort l)
  rw [hunit] at heq hnot
  exact ⟨b, c, heq, hdue, hnot⟩

theorem State.activated_blocks : (s.activated l k o b c).heads = (s.underway l k o).heads ∧
    (s.activated l k o b c).rings = (s.underway l k o).rings ∧ (s.activated l k o b c).channels = s.channels ∧
    (s.activated l k o b c).arbiter = s.arbiter ∧ (s.activated l k o b c).recipes = s.recipes ∧
    (s.activated l k o b c).faults = s.faults ∧ (s.activated l k o b c).cabinet = s.cabinet ∧
    (s.activated l k o b c).ports = s.ports := by
  obtain ⟨hchannels, hrecipes, -, harbiter, hfaults, hcabinet, hports⟩ := State.underway_blocks (s := s) (l := l) k o
  unfold State.activated State.setSlot
  generalize s.underway l k o = w at hchannels hrecipes harbiter hfaults hcabinet hports ⊢
  simp [hchannels, hrecipes, harbiter, hfaults, hcabinet, hports]

theorem State.om_activated : ((s.activated l k o b c).om l).released = (s.om l).released - 1 ∧
    ((s.activated l k o b c).om l).deadline = (if o.deadline = 0 then none else some o.deadline) ∧
    ((s.activated l k o b c).om l).postPtr = (s.om l).postPtr := by
  obtain ⟨hreleased, hdeadline, -, hptr⟩ := State.om_underway (s := s) (l := l) k o
  unfold State.activated
  generalize s.underway l k o = w at hreleased hdeadline hptr ⊢
  simp [State.om_setSlot, hreleased, hdeadline, hptr]

theorem State.activated_other {m : Lane} (hm : m ≠ l) :
    (s.activated l k o b c).om m = s.om m ∧ (s.activated l k o b c).ring m = s.ring m := by
  obtain ⟨hom, hring⟩ := State.underway_other (s := s) k o hm
  unfold State.activated
  generalize s.underway l k o = w at hom hring ⊢
  simp [State.om_setSlot, hm, hom, hring]

theorem State.order_activated (hactive : s.active l = none) (m : Lane) (n : SlotId) :
    (s.activated l k o b c).order m n =
      if m = l ∧ n = k then some ((s.begun o).withNearDone b) else s.order m n := by
  rw [State.activated, (State.reads_setUnit _ _ _).2.2.2.2.2.1, State.order_setSlot]
  refine ite_congr rfl (fun _ => rfl) fun hne => ?_
  rw [(State.underway_writes hactive k o).1, if_neg hne]

theorem State.active_activated (hactive : s.active l = none) :
    (s.activated l k o b c).active l = some (k, (s.begun o).withNearDone b) := by
  refine State.active_of_slot (State.active_started k o hactive)
    ((State.order_activated k o b c hactive l k).trans (if_pos ⟨rfl, rfl⟩))
    (show OrderState.running ≠ .posted by decide) fun n hn => ?_
  rw [State.order_activated k o b c hactive, State.order_started]
  have hne : ¬ (l = l ∧ n = k) := fun h => hn h.2
  rw [if_neg hne, if_neg hne]

theorem State.unit_activated (p : Port) : (s.activated l k o b c).unit p =
    if p = lanePort l then (s.unit p).withNearDone c else s.unit p := by
  have hunits := State.unit_congr (State.underway_blocks (s := s) (l := l) k o).2.2.1
  rw [State.activated, State.unit_setUnit]
  split
  · rename_i hp
    rw [hp]
  · exact hunits p

theorem State.units_activated : (s.activated l k o b (s.unit (lanePort l)).nearDone).units = s.units := by
  have hunits := (State.underway_blocks (s := s) (l := l) k o).2.2.1
  have hself : s.units.set (lanePort l) (s.unit (lanePort l)) = s.units :=
    congrArg State.units (s.setUnit_self (lanePort l))
  rw [← hunits] at hself
  exact hself.trans hunits

theorem State.ring_activated : (s.activated l k o b c).ring l =
    { s.ring l with reserved := (s.ring l).reserved + (6 + o.joints.length) } :=
  (State.ring_congr (State.activated_blocks k o b c).2.1 l).trans (State.ring_underway k o)

theorem State.length_begun : (s.begun o).joints.length = o.joints.length := by
  simp [State.begun, Order.arrived, State.startedOrder, State.skipFlagged]
end

theorem State.activatable_eq {s : State} {l : Lane} {k : SlotId} {o : Order} (hactive : s.active l = none)
    (hreleased : 0 < (s.om l).released) (hmode : s.mode = .live ∨ s.mode = .proof)
    (holdest : s.oldestPosted l = some (k, o)) (hfree : 6 + o.joints.length ≤ (s.ring l).free) :
    s.activatable l = some (k, o) := by
  have hworking : s.working = true := by
    unfold State.working
    rcases hmode with hmode | hmode <;> rw [hmode] <;> rfl
  have hfree' : o.recordSize ≤ (s.ring l).free := hfree
  simp only [State.activatable, hactive, Option.isNone_none, decide_eq_true hreleased, hworking, Bool.and_true, if_true,
    holdest, hfree']

/-- What the finishing of an order that started with every joint skipped leaves. -/
theorem activated_finishes {s : State} {l : Lane} {k : SlotId} {o : Order} (b : Bool) (c : Option Context)
    (hactive : s.active l = none) {o' : Order} (ho' : o' = (s.begun o).withNearDone b) (hdone : o'.allDone = true)
    {v : State} (hv : v = (s.activated l k o b c).finishOrder l k o' o'.kind) :
    (v.ring l).records = (s.ring l).records ++ [.completion
        { lane := l, slot := k, tag := o.tag, code := o.code, proof := o.proof, time := s.now
          kind := if o.abort then .aborted else if o.discard then .discarded else if o.late then .late else .normal
          joints := o'.joints.map fun j => (j.outcome.getD .notRun, j.attempts) }] ∧
      (v.ring l).reserved = (s.ring l).reserved ∧ (v.om l).deadline = none ∧ (v.om l).halted = [] ∧
      (v.om l).released = (s.om l).released - 1 ∧ (v.om l).postPtr = (s.om l).postPtr ∧
      (∀ m n, v.order m n = if m = l ∧ n = k then none else s.order m n) ∧
      (∀ i, v.recipes.get i = { s.recipes.get i with
        refs := (s.recipes.get i).refs - if i ∈ o.recipes then 1 else 0 }) ∧
      (v.unit (lanePort l)).orderDone = some { lane := some l, slot := some k, tag := some o.tag, head := none } ∧
      (v.unit (lanePort l)).slotFree = some { lane := some l, slot := some k, tag := none, head := none } ∧
      (v.unit (lanePort l)).pollMark = false ∧ (v.unit (lanePort l)).halted = false ∧
      (v.unit (lanePort l)).nearDone = ((s.activated l k o b c).unit (lanePort l)).nearDone ∧
      v.heads = s.heads ∧ v.channels = s.channels ∧ v.arbiter = s.arbiter ∧ v.faults = s.faults ∧
      v.cabinet = s.cabinet ∧ v.ports = s.ports := by
  subst ho' hv
  obtain ⟨hheads, hrings, hchannels, harbiter, hrecipes, hfaults, hcabinet, hports⟩ :=
    State.activated_blocks (s := s) (l := l) k o b c
  obtain ⟨hreleased, hdeadline, hptr⟩ := State.om_activated (s := s) (l := l) k o b c
  obtain ⟨hheadsF, hchannelsF, harbiterF, hfaultsF, hcabinetF, hportsF⟩ := State.finishOrder_blocks
    (s.activated l k o b c) l k ((s.begun o).withNearDone b) ((s.begun o).withNearDone b).kind
  have hlength : ((s.begun o).withNearDone b).joints.length = o.joints.length := State.length_begun o
  have hnow : (s.activated l k o b c).now = s.now := by rw [State.now, hcabinet, State.now]
  refine ⟨?_, ?_, ?_, ?_, ?_, ?_, fun m n => ?_, fun i => ?_, ?_, ?_, ?_, ?_, ?_, ?_, hchannelsF.trans hchannels,
    harbiterF.trans harbiter, hfaultsF.trans hfaults, hcabinetF.trans hcabinet, hportsF.trans hports⟩
  · rw [State.ring_finishOrder, if_pos rfl, State.ring_activated, State.completionRecord, hnow]
    rfl
  · rw [State.ring_finishOrder, if_pos rfl, State.ring_activated, hlength]
    exact Nat.add_sub_cancel _ _
  · rw [State.om_finishOrder, if_pos rfl]
  · rw [State.om_finishOrder, if_pos rfl]
  · rw [State.om_finishOrder, if_pos rfl]
    exact hreleased
  · rw [State.om_finishOrder, if_pos rfl]
    exact hptr
  · rw [State.order_finishOrder]
    refine ite_congr rfl (fun _ => rfl) fun hne => ?_
    rw [State.order_activated k o b c hactive, if_neg hne]
  · rw [State.recipes_finishOrder, hrecipes]
    rfl
  · rw [State.unit_finishOrder, if_pos rfl]
    rfl
  · rw [State.unit_finishOrder, if_pos rfl]
    rfl
  · rw [State.unit_finishOrder, if_pos rfl]
  · rw [State.unit_finishOrder, if_pos rfl]
  · rw [State.unit_finishOrder, if_pos rfl, State.unit_writeRecord]
  · refine hheadsF.trans (hheads.trans (State.heads_ext fun h => ?_))
    exact State.head_underway_none hactive k o
      (Order.front_none_of_allDone (o := (s.begun o).withNearDone b) h hdone)

/-- Settles O17: the activation as writes, and the finishing of an order whose joints are all skipped. -/
theorem activationStartsOldestPostedOrder : Obligations.ActivationStartsOldestPostedOrder := by
  intro l k o s hactive hreleased hmode holdest hfree
  have ha := State.activatable_eq hactive hreleased hmode holdest hfree
  obtain ⟨b, c, hactivate, hdue, hnot⟩ := State.activate_eq_activated k o hactive
  have hactive1 : (s.activate l k o).active l = some (k, (s.begun o).withNearDone b) :=
    hactivate ▸ State.active_activated k o b c hactive
  have hexec : exec (.activation l) s = .next (s.tryActivation l).arbitrate := by
    change execActivation l s = _
    rw [execActivation, ha, Option.isSome_some, if_pos rfl]
  have hdue_iff : (s.underway l k o).nearDoneDue l (s.begun o) ↔ (0 < (s.om l).threshold ∧ o.nearDone = false ∧
      (s.om l).threshold * o.joints.length ≤
        16 * (((s.begun o).withNearDone b).joints.filter fun j => j.outcome.isSome).length) := by
    unfold State.nearDoneDue
    rw [(State.om_underway (s := s) (l := l) k o).2.2.1, State.length_begun]
    exact Iff.rfl
  obtain ⟨hheads, hrings, hchannels, harbiter, hrecipes, hfaults, hcabinet, hports⟩ :=
    State.activated_blocks (s := s) (l := l) k o b c
  obtain ⟨hreleased', hdeadline, -⟩ := State.om_activated (s := s) (l := l) k o b c
  have hhead := State.head_congr hheads
  refine ⟨hexec, s.activated l k o b c, (s.begun o).withNearDone b,
    fun hopen => (s.tryActivation_stays ha hactive1 hopen).trans hactivate,
    fun hdone => ⟨(s.activated l k o b c).finishOrder l k ((s.begun o).withNearDone b)
      ((s.begun o).withNearDone b).kind, ?_, activated_finishes b c hactive rfl hdone rfl⟩,
    (State.order_activated k o b c hactive l k).trans (if_pos ⟨rfl, rfl⟩), rfl, rfl, rfl, rfl, rfl, rfl, rfl, rfl,
    ⟨fun h => ?_, fun h => ?_⟩, State.length_begun o, fun i j => State.begun_joint,
    fun h i j => Order.front_arrived_ne_pending allHeads s.latch (mem_allHeads h), fun h i j x hfront hx => ?_,
    fun h hfront => (hhead h).trans (State.head_underway_none hactive k o hfront), ?_, ?_, hreleased', hdeadline,
    fun n hn => (State.order_activated k o b c hactive l n).trans (if_neg fun h => hn h.2),
    fun m hm => State.activated_other k o b c hm, fun h => ?_, hchannels, harbiter, hrecipes, hfaults, hcabinet, hports⟩
  · rw [s.tryActivation_allDone ha hactive1 hdone, hactivate]
  · obtain ⟨rfl, rfl⟩ := hdue (hdue_iff.mpr h)
    exact ⟨rfl, State.unit_activated k o _ _⟩
  · obtain ⟨hb, hc⟩ := hnot fun h' => h (hdue_iff.mp h')
    refine ⟨hb, ?_⟩
    rw [hc]
    exact State.units_activated k o b
  · rw [hhead]
    exact State.head_underway_front hactive k o hfront hx
  · rw [State.ring_activated]
    exact (Nat.add_assoc _ _ _).symm
  · rw [State.ring_activated]
  · rw [hhead, (State.underway_writes hactive k o).2]
    rfl

end Sys2Proof.Machine
end

section
/-! PROOF. The end of an attempt (R79, R80, R117, R122). -/

namespace Sys2Proof.Machine

/-! ### The record of an attempt (R79, R122) -/

section
variable {s : State} {a : Attempt} {o : Order} (c : ChannelId) (res : AttemptResult)

theorem State.recordAttempt_discard (ho : s.order a.lane a.slot = some o) (h : o.discard = true) :
    s.recordAttempt c a res = s.unreserve a.lane (s.recipe a.recipe).recordSize := by
  unfold State.recordAttempt
  rw [ho]
  exact if_pos h

theorem State.recordAttempt_writes (ho : s.order a.lane a.slot = some o) (h : o.discard = false) :
    s.recordAttempt c a res = s.writeRecord a.lane (.joint (s.jointRecord c a o res)) := by
  unfold State.recordAttempt
  rw [ho]
  exact if_neg (h ▸ Bool.false_ne_true)

theorem State.recordAttempt_blocks : (s.recordAttempt c a res).oms = s.oms ∧ (s.recordAttempt c a res).heads = s.heads ∧
    (s.recordAttempt c a res).recipes = s.recipes ∧ (s.recordAttempt c a res).channels = s.channels ∧
    (s.recordAttempt c a res).arbiter = s.arbiter ∧ (s.recordAttempt c a res).faults = s.faults ∧
    (s.recordAttempt c a res).cabinet = s.cabinet ∧ (s.recordAttempt c a res).ports = s.ports := by
  have hreturned : ∀ n, (s.unreserve a.lane n).oms = s.oms ∧ (s.unreserve a.lane n).heads = s.heads ∧
      (s.unreserve a.lane n).recipes = s.recipes ∧ (s.unreserve a.lane n).channels = s.channels ∧
      (s.unreserve a.lane n).arbiter = s.arbiter ∧ (s.unreserve a.lane n).faults = s.faults ∧
      (s.unreserve a.lane n).cabinet = s.cabinet ∧ (s.unreserve a.lane n).ports = s.ports := fun n => by
    simp [State.unreserve]
  unfold State.recordAttempt
  split
  · split
    · exact hreturned _
    · rw [State.writeRecord_eq]
      simp
  · exact hreturned _

theorem State.ring_recordAttempt_discard (ho : s.order a.lane a.slot = some o) (h : o.discard = true) (m : Lane) :
    (s.recordAttempt c a res).ring m = if m = a.lane then { s.ring a.lane with
      reserved := (s.ring a.lane).reserved - (8 + 2 * (s.recipe a.recipe).segments.length) } else s.ring m := by
  rw [State.recordAttempt_discard c res ho h, State.unreserve, State.modRing_eq, State.ring_setRing]
  rfl

theorem State.ring_recordAttempt_writes (ho : s.order a.lane a.slot = some o) (h : o.discard = false) (m : Lane) :
    (s.recordAttempt c a res).ring m = if m = a.lane then { s.ring a.lane with
      records := (s.ring a.lane).records ++ [.joint (s.jointRecord c a o res)]
      reserved := (s.ring a.lane).reserved - (8 + 2 * (s.recipe a.recipe).segments.length) } else s.ring m := by
  rw [State.recordAttempt_writes c res ho h, State.ring_writeRecord]
  rfl

theorem State.units_recordAttempt_discard (ho : s.order a.lane a.slot = some o) (h : o.discard = true) :
    (s.recordAttempt c a res).units = s.units := by
  rw [State.recordAttempt_discard c res ho h]
  simp [State.unreserve]

/-! ### The attempt closed (R79 steps 2 to 4) -/

theorem State.faultChannel_blocks (t : State) (c : ChannelId) : (t.faultChannel c).oms = t.oms ∧
    (t.faultChannel c).rings = t.rings ∧
    (t.faultChannel c).arbiter = { t.arbiter with stays := t.arbiter.stays.set c none } ∧
    ∀ h, (t.faultChannel c).head h = HeadRec.leave c (t.chan c).parked h (t.head h) := by
  unfold State.faultChannel
  generalize hm : (t.modChan c fun r => { r.clear with state := .faulted }) = m
  have hparked : (m.chan c).parked = (t.chan c).parked := by
    rw [← hm, State.modChan_eq, State.chan_setChan, if_pos rfl]
    rfl
  have hblocks : m.oms = t.oms ∧ m.rings = t.rings ∧ m.arbiter = t.arbiter ∧ m.heads = t.heads := by
    rw [← hm]
    simp
  obtain ⟨homs, hrings, harbiter, hheads⟩ := hblocks
  have hkept := State.setParked_none_keeps (fun u => (u.oms, u.arbiter, u.rings)) (fun _ _ => rfl) (fun _ _ _ => rfl) m c
  simp only [Prod.mk.injEq] at hkept
  obtain ⟨homs', harbiter', hrings'⟩ := hkept
  have hhead := State.head_setParked_none m c
  rw [hparked] at hhead
  generalize m.setParked c none = u at homs' harbiter' hrings' hhead ⊢
  refine ⟨homs'.trans homs, hrings'.trans hrings, ?_, fun h => ?_⟩
  · rw [State.setStay, State.modArbiter_eq, State.setArbiter_arbiter, harbiter', harbiter]
  · rw [State.setStay, State.modArbiter_eq, (State.reads_setArbiter _ _).2.2.1, hhead, State.head_congr hheads]

theorem State.closeAttempt_eq (ha : (s.chan c).attempt = some a) : s.closeAttempt c res .idle =
    ((s.recordAttempt c a res).setArbiter { s.arbiter with committed := s.arbiter.committed - a.peak }).setChan c
      (s.chan c).clear := by
  obtain ⟨-, -, -, hchannels, harbiter, -, -, -⟩ := s.recordAttempt_blocks (a := a) c res
  have hchan := State.chan_congr hchannels c
  unfold State.closeAttempt
  rw [ha]
  dsimp only
  unfold State.release
  generalize s.recordAttempt c a res = t at harbiter hchan ⊢
  rw [State.modChan_eq, State.modArbiter_eq, (State.reads_setArbiter _ _).2.2.2.1, harbiter, hchan]

theorem State.closeAttempt_blocks (ha : (s.chan c).attempt = some a) :
    (s.closeAttempt c res .idle).oms = s.oms ∧ (s.closeAttempt c res .idle).heads = s.heads ∧
      (s.closeAttempt c res .idle).recipes = s.recipes ∧
      (s.closeAttempt c res .idle).arbiter = { s.arbiter with committed := s.arbiter.committed - a.peak } ∧
      (s.closeAttempt c res .idle).faults = s.faults ∧ (s.closeAttempt c res .idle).cabinet = s.cabinet ∧
      (s.closeAttempt c res .idle).ports = s.ports ∧
      (s.closeAttempt c res .idle).rings = (s.recordAttempt c a res).rings ∧
      (s.closeAttempt c res .idle).units = (s.recordAttempt c a res).units := by
  obtain ⟨homs, hheads, hrecipes, -, -, hfaults, hcabinet, hports⟩ := s.recordAttempt_blocks (a := a) c res
  rw [State.closeAttempt_eq c res ha]
  generalize s.recordAttempt c a res = t at homs hheads hrecipes hfaults hcabinet hports ⊢
  simp [homs, hheads, hrecipes, hfaults, hcabinet, hports]

/-- The faulted end is the idle one with the channel then unparked and FAULTED. -/
theorem State.closeAttempt_faulted_eq (ha : (s.chan c).attempt = some a) :
    let f := s.closeAttempt c res .faulted
    f.oms = s.oms ∧ f.arbiter = { s.arbiter with
      committed := s.arbiter.committed - a.peak, stays := s.arbiter.stays.set c none } ∧
    f.chan c = { s.chan c with state := .faulted, parked := none, attempt := none, moveTimer := none, heat := none } ∧
    (∀ d, d ≠ c → f.chan d = s.chan d) ∧ f.rings = (s.closeAttempt c res .idle).rings ∧
    (∀ h, f.head h = { s.head h with
      connected := if (s.chan c).parked = some h ∧ (s.head h).connected = some c then none
        else (s.head h).connected }) := by
  have hchan := fun d => State.chan_closeAttempt s c d res a ha
  obtain ⟨homs, hheads, -, harbiter, -, -, -, -, -⟩ := State.closeAttempt_blocks c res ha
  obtain ⟨homsF, hringsF, harbiterF, hheadF⟩ := (s.closeAttempt c res .idle).faultChannel_blocks c
  have hfault := State.chan_faultChannel (s.closeAttempt c res .idle) c
  dsimp only
  rw [State.closeAttempt_faulted ha]
  rw [hchan c, if_pos rfl] at hfault hheadF
  refine ⟨homsF.trans homs, ?_, (hfault c).trans (if_pos rfl), fun d hd => ?_, hringsF, fun h => ?_⟩
  · rw [harbiterF, harbiter]
  · rw [hfault, if_neg hd, hchan, if_neg hd]
  · rw [hheadF, State.head_congr hheads]
    unfold HeadRec.leave ChannelRec.clear
    split <;> rfl
end

/-! ### What follows an attempt's end (R51, R52, R72) -/

/-- The health flag that the result sets. -/
def State.flagged (s : State) (a : Attempt) (res : AttemptResult) : State :=
  match res.setsFlag with
  | some f => s.setHealth a.head f
  | none => s

theorem State.endAttempt_eq {s : State} {c : ChannelId} {a : Attempt} (ha : (s.chan c).attempt = some a)
    (res : AttemptResult) (dest : ChannelEnd) : s.endAttempt c res dest =
      (((((s.closeAttempt c res dest).takeResult a res).flagged a res).skipIfFlagged a).judgeStay c a) := by
  unfold State.endAttempt
  rw [ha]
  rfl

theorem State.flagged_none {s : State} {a : Attempt} {res : AttemptResult} (hload : res ≠ .noLoad)
    (hsensor : res ≠ .sensorLost) (hcoolant : res ≠ .faultAbort .headCoolant) : s.flagged a res = s := by
  cases res with
  | noLoad => exact absurd rfl hload
  | sensorLost => exact absurd rfl hsensor
  | good | shortfall | overheat | aborted | interrupted => rfl
  | faultAbort cause =>
    cases cause with
    | headCoolant => exact absurd rfl hcoolant
    | inverter | matrix => rfl

/-- The conditions of R72. -/
def State.stayDue (x : State) (c : ChannelId) (a : Attempt) : Prop :=
  (x.head a.head).stay = true ∧ (x.chan c).state = .idle ∧ (x.chan c).parked = some a.head ∧
    (x.recipe a.recipe).postDwell = 0 ∧ (x.head a.head).health.any = false ∧
    ∃ k n i j, x.active a.lane = some (k, n) ∧ n.state = .running ∧ n.late = false ∧ n.discard = false ∧
      n.abort = false ∧ n.front a.head = some (i, j) ∧ j.state = .ready

theorem State.stayHolds_iff (x : State) (c : ChannelId) (a : Attempt) : x.stayHolds c a = true ↔ x.stayDue c a := by
  unfold State.stayHolds State.stayDue
  simp only [Bool.and_eq_true, beq_iff_eq, Bool.not_eq_true', and_assoc]
  refine and_congr_right fun _ => and_congr_right fun _ => and_congr_right fun _ => and_congr_right fun _ =>
    and_congr_right fun _ => ?_
  cases hactive : x.active a.lane with
  | none => simp
  | some p =>
    obtain ⟨k, n⟩ := p
    cases hfront : n.front a.head with
    | none => simp [hfront]
    | some q =>
      obtain ⟨i, j⟩ := q
      simp [hfront, Order.windingDown, and_assoc]

/-! ### The cut of a heating (R96 to R99) -/

theorem State.recordSegment_cut {s : State} {c : ChannelId} {a : Attempt} {q : Heating} {g : Segment}
    (ha : (s.chan c).attempt = some a) (hq : (s.chan c).heat = some q)
    (hg : (s.recipe a.recipe).segments[q.segment - 1]? = some g) :
    s.recordSegment c .cut = { s.setChan c { s.chan c with heat := some { q with
      energy := q.energy + meteredEnergy s.draws g .cut
      entries := q.entries ++ [⟨.cut, (s.now - q.segStart).toNat⟩] } } with draws := s.draws + 1 } := by
  have hsegment : s.segmentOf c = some g := by simp only [State.segmentOf, ha, hq, hg]
  rw [State.recordSegment_of_segment hsegment, hq]
  rfl

/-- Settles O43: the end in its steps, the cut before it, and the closing of the attempt for either departure. -/
theorem attemptEndWritesOrSuppressesRecord : Obligations.AttemptEndWritesOrSuppressesRecord := by
  intro c res a o s ha ho
  refine ⟨fun dest => ⟨(s.closeAttempt c res dest).takeResult a res,
    ((s.closeAttempt c res dest).takeResult a res).flagged a res,
    (((s.closeAttempt c res dest).takeResult a res).flagged a res).skipIfFlagged a, rfl, fun h => ?_, fun h => ?_,
    fun h => ?_, State.flagged_none, ⟨?_, fun howed => State.skipIfFlagged_other ?_⟩, ?_, fun q g hq hg =>
      ⟨meteredEnergy s.draws g .cut, s.recordSegment c .cut, rfl, meteredEnergy_le (by decide) _ _,
        State.recordSegment_cut ha hq hg⟩⟩,
    State.closeAttempt_faulted_eq c res ha, ?_⟩
  · rw [h]
    rfl
  · rw [h]
    rfl
  · rw [h]
    rfl
  · rintro ⟨hflag, n, hactive⟩
    exact State.skipIfFlagged_owed hflag hactive
  · by_cases hactive : ∃ n, (((s.closeAttempt c res dest).takeResult a res).flagged a res).active a.lane =
        some (a.slot, n)
    · obtain ⟨hhealth, habandoned⟩ := not_or.mp fun hflag => howed ⟨hflag, hactive⟩
      exact Or.inl ⟨Bool.eq_false_iff.mpr hhealth, Bool.eq_false_iff.mpr habandoned⟩
    · exact Or.inr fun n hn => hactive ⟨n, hn⟩
  · rw [State.endAttempt_eq ha]
    generalize (((s.closeAttempt c res dest).takeResult a res).flagged a res).skipIfFlagged a = x
    refine ⟨fun hstays => ?_, fun hnot => ?_⟩
    · rw [State.judgeStay, if_pos ((x.stayHolds_iff c a).mpr hstays)]
      rfl
    · rw [State.judgeStay, if_neg fun h => hnot ((x.stayHolds_iff c a).mp h)]
  · obtain ⟨homs, hheads, hrecipes, harbiter, hfaults, hcabinet, hports, hrings, hunits⟩ :=
      State.closeAttempt_blocks c res ha
    have hchan := fun d => State.chan_closeAttempt s c d res a ha
    have hring := State.ring_congr hrings
    dsimp only
    rw [harbiter, hchan, if_pos rfl, hring]
    refine ⟨rfl, rfl, rfl, rfl, rfl, fun d hd => (hchan d).trans (if_neg hd), ?_, fun hdiscard => ⟨?_, ?_⟩,
      fun hdiscard => ⟨s.jointRecord c a o res, ?_, rfl, rfl, rfl, rfl, rfl, rfl, rfl, rfl, rfl, rfl, rfl, rfl,
        fun w hw => ?_, fun hw => ?_⟩, fun m hm => ?_, homs, hheads, hrecipes, hfaults, hcabinet, hports⟩
    · cases hdiscard : o.discard with
      | true => rw [State.ring_recordAttempt_discard c res ho hdiscard, if_pos rfl]
      | false => rw [State.ring_recordAttempt_writes c res ho hdiscard, if_pos rfl]
    · rw [State.ring_recordAttempt_discard c res ho hdiscard, if_pos rfl]
    · exact hunits.trans (State.units_recordAttempt_discard c res ho hdiscard)
    · rw [State.ring_recordAttempt_writes c res ho hdiscard, if_pos rfl]
    · simp only [State.jointRecord, hw, Option.map_some, Option.getD_some, State.since, and_self]
    · simp only [State.jointRecord, hw, Option.map_none, Option.getD_none, and_self]
    · rw [hring]
      cases hdiscard : o.discard with
      | true => rw [State.ring_recordAttempt_discard c res ho hdiscard, if_neg hm]
      | false => rw [State.ring_recordAttempt_writes c res ho hdiscard, if_neg hm]

end Sys2Proof.Machine
end

section
/-! PROOF. Attempts that are cut, and their records (R19, R96 to R99, R117); the abort of an active order. -/

namespace Sys2Proof.Machine

/-! ### The record of an attempt that ended -/

/-- What the joint record of an attempt says besides the heating. -/
structure EndRecord (now : Time) (heated : Recipe) (c : ChannelId) (a : Attempt) (tag : Word) (res : AttemptResult)
    (r : JointRecord) : Prop where
  lane : r.lane = a.lane
  slot : r.slot = a.slot
  tag : r.tag = tag
  joint : r.joint = a.joint
  head : r.head = a.head
  channel : r.channel = c
  recipe : r.recipe = a.recipe
  number : r.number = a.number
  result : r.result = res
  proof : r.proof = a.proof
  time : r.time = now
  places : r.places = heated.segments.length

/-- What the record of a cut heating says of it. -/
def CutEntries (now : Time) (recipe : Recipe) (heat : Option Heating) (r : JointRecord) : Prop :=
  ∀ w g, heat = some w → recipe.segments[w.segment - 1]? = some g →
    w.energy ≤ r.energy ∧ r.energy ≤ w.energy + g.power * g.maxTime / 1000 ∧ r.peakTemp = w.peakTemp ∧
      r.heatTime = (now - w.start).toNat ∧ r.entries = w.entries ++ [⟨.cut, (now - w.segStart).toNat⟩]

/-- What the record of an attempt without heating says. -/
def NoHeating (heat : Option Heating) (r : JointRecord) : Prop :=
  heat = none → r.energy = 0 ∧ r.peakTemp = 0 ∧ r.heatTime = 0 ∧ r.entries = []

section
variable (s : State) (c : ChannelId) (a : Attempt) (o : Order) (res : AttemptResult)

theorem State.endRecord_jointRecord : EndRecord s.now (s.recipe a.recipe) c a o.tag res (s.jointRecord c a o res) :=
  ⟨rfl, rfl, rfl, rfl, rfl, rfl, rfl, rfl, rfl, rfl, rfl, rfl⟩

theorem State.noHeating_jointRecord : NoHeating (s.chan c).heat (s.jointRecord c a o res) := fun h => by
  simp only [State.jointRecord, h, Option.map_none, Option.getD_none, and_self]

/-! ### The cut of a running segment -/

theorem State.recordSegment_blocks (reason : EndReason) : (s.recordSegment c reason).oms = s.oms ∧
    (s.recordSegment c reason).heads = s.heads ∧ (s.recordSegment c reason).rings = s.rings ∧
    (s.recordSegment c reason).units = s.units ∧ (s.recordSegment c reason).recipes = s.recipes ∧
    (s.recordSegment c reason).arbiter = s.arbiter ∧ (s.recordSegment c reason).faults = s.faults ∧
    (s.recordSegment c reason).cabinet = s.cabinet ∧ (s.recordSegment c reason).ports = s.ports := by
  cases hg : s.segmentOf c with
  | none =>
    rw [State.recordSegment_of_none hg]
    simp
  | some g =>
    rw [State.recordSegment_of_segment hg]
    simp [State.draw]

theorem State.heat_recordSegment_none (h : (s.chan c).heat = none) (reason : EndReason) :
    ((s.recordSegment c reason).chan c).heat = none := by
  have hsegment : s.segmentOf c = none := by
    unfold State.segmentOf
    rw [h]
    cases (s.chan c).attempt <;> rfl
  rw [State.recordSegment_of_none hsegment, h]

variable {s c a} in
theorem State.cutEntries_jointRecord (ha : (s.chan c).attempt = some a) : CutEntries s.now (s.recipe a.recipe)
    (s.chan c).heat ((s.recordSegment c .cut).jointRecord c a o res) := by
  intro w g hw hg
  rw [State.recordSegment_cut ha hw hg]
  have hmetered := meteredEnergy_le (reason := .cut) (by decide) s.draws g
  generalize meteredEnergy s.draws g .cut = e at hmetered
  have hheat : ∀ (t : State) n, (({ t with draws := n } : State).chan c).heat = (t.chan c).heat := fun _ _ => rfl
  simp only [State.jointRecord, hheat, State.chan_setChan, if_true, Option.map_some, Option.getD_some]
  exact ⟨Nat.le_add_right _ _, Nat.add_le_add_left hmetered _, trivial, rfl, trivial⟩

/-! ### An attempt cut and closed -/

/-- The attempt in HEATING cut, recorded, released and cleared. -/
def State.cutClosed : State := (s.recordSegment c .cut).closeAttempt c res .idle

variable {s c a} (ha : (s.chan c).attempt = some a)

theorem State.reserved_recordAttempt (m : Lane) : ((s.recordAttempt c a res).ring m).reserved = if m = a.lane then
    (s.ring m).reserved - (8 + 2 * (s.recipe a.recipe).segments.length) else (s.ring m).reserved := by
  cases ho : s.order a.lane a.slot with
  | none =>
    have hreturned : s.recordAttempt c a res = s.unreserve a.lane (s.recipe a.recipe).recordSize := by
      unfold State.recordAttempt
      rw [ho]
    rw [hreturned, State.unreserve, State.modRing_eq, State.ring_setRing]
    split
    · rename_i hm
      rw [hm]
      rfl
    · rfl
  | some o =>
    cases hdiscard : o.discard with
    | true =>
      rw [State.ring_recordAttempt_discard c res ho hdiscard]
      split
      · rename_i hm
        rw [hm]
      · rfl
    | false =>
      rw [State.ring_recordAttempt_writes c res ho hdiscard]
      split
      · rename_i hm
        rw [hm]
      · rfl

theorem State.ring_recordAttempt_other {m : Lane} (hm : m ≠ a.lane) :
    (s.recordAttempt c a res).ring m = s.ring m := by
  unfold State.recordAttempt State.unreserve
  split
  · split
    · rw [State.modRing_eq, State.ring_setRing, if_neg hm]
    · rw [State.ring_writeRecord, if_neg hm]
  · rw [State.modRing_eq, State.ring_setRing, if_neg hm]

theorem State.reader_recordAttempt (m : Lane) : ((s.recordAttempt c a res).ring m).reader = (s.ring m).reader := by
  have hreturned : ∀ n, ((s.unreserve a.lane n).ring m).reader = (s.ring m).reader := fun n => by
    rw [State.unreserve, State.modRing_eq, State.ring_setRing]
    split
    · rename_i hm
      rw [hm]
    · rfl
  unfold State.recordAttempt
  split
  · split
    · exact hreturned _
    · rw [State.ring_writeRecord]
      split
      · rename_i hm
        rw [hm]
      · rfl
  · exact hreturned _

/-- A record joins at the tail or none does. -/
theorem State.records_recordAttempt_prefix (m : Lane) :
    (s.ring m).records <+: ((s.recordAttempt c a res).ring m).records := by
  have hreturned : ∀ n, ((s.unreserve a.lane n).ring m).records = (s.ring m).records := fun n => by
    rw [State.unreserve, State.modRing_eq, State.ring_setRing]
    split
    · rename_i hm
      rw [hm]
    · rfl
  unfold State.recordAttempt
  split
  · split
    · rw [hreturned]
    · rw [State.ring_writeRecord]
      split
      · rename_i hm
        rw [hm]
        exact List.prefix_append _ _
      · exact List.prefix_rfl
  · rw [hreturned]

/-- The record's ring tells its reader port alone. -/
theorem State.unit_recordAttempt (q : Port) : (s.recordAttempt c a res).unit q =
    { s.unit q with results := ((s.recordAttempt c a res).unit q).results } := by
  unfold State.recordAttempt
  split
  · split
    · rfl
    · rw [State.unit_writeRecord]
  · rfl

include ha

theorem State.attempt_recordSegment (reason : EndReason) : ((s.recordSegment c reason).chan c).attempt = some a := by
  rw [State.chan_recordSegment]
  exact ha

theorem State.cutClosed_blocks : (s.cutClosed c res).oms = s.oms ∧ (s.cutClosed c res).heads = s.heads ∧
    (s.cutClosed c res).recipes = s.recipes ∧
    (s.cutClosed c res).arbiter = { s.arbiter with committed := s.arbiter.committed - a.peak } ∧
    (s.cutClosed c res).faults = s.faults ∧ (s.cutClosed c res).cabinet = s.cabinet ∧
    (s.cutClosed c res).ports = s.ports := by
  obtain ⟨homs, hheads, -, -, hrecipes, harbiter, hfaults, hcabinet, hports⟩ := s.recordSegment_blocks c .cut
  obtain ⟨homs', hheads', hrecipes', harbiter', hfaults', hcabinet', hports', -, -⟩ :=
    State.closeAttempt_blocks c res (State.attempt_recordSegment ha .cut)
  rw [harbiter] at harbiter'
  exact ⟨homs'.trans homs, hheads'.trans hheads, hrecipes'.trans hrecipes, harbiter', hfaults'.trans hfaults,
    hcabinet'.trans hcabinet, hports'.trans hports⟩

theorem State.chan_cutClosed (d : ChannelId) :
    (s.cutClosed c res).chan d = if d = c then (s.chan c).clear else s.chan d := by
  rw [State.cutClosed, State.chan_closeAttempt _ c d res a (State.attempt_recordSegment ha .cut)]
  split
  · rw [State.chan_recordSegment]
    rfl
  · rename_i hd
    exact State.chan_recordSegment_other s c d .cut hd

theorem State.ring_cutClosed (m : Lane) : (s.cutClosed c res).ring m =
    ((s.recordSegment c .cut).recordAttempt c a res).ring m :=
  State.ring_congr (State.closeAttempt_blocks c res (State.attempt_recordSegment ha .cut)).2.2.2.2.2.2.2.1 m

theorem State.reserved_cutClosed (m : Lane) : ((s.cutClosed c res).ring m).reserved = if m = a.lane then
    (s.ring m).reserved - (8 + 2 * (s.recipe a.recipe).segments.length) else (s.ring m).reserved := by
  obtain ⟨-, -, hrings, -, hrecipes, -, -, -, -⟩ := s.recordSegment_blocks c .cut
  rw [State.ring_cutClosed res ha, State.reserved_recordAttempt, State.ring_congr hrings, State.recipe, hrecipes]
  rfl

theorem State.ring_cutClosed_other {m : Lane} (hm : m ≠ a.lane) : (s.cutClosed c res).ring m = s.ring m := by
  rw [State.ring_cutClosed res ha, State.ring_recordAttempt_other res hm,
    State.ring_congr (s.recordSegment_blocks c .cut).2.2.1]

theorem State.reader_cutClosed (m : Lane) : ((s.cutClosed c res).ring m).reader = (s.ring m).reader := by
  rw [State.ring_cutClosed res ha, State.reader_recordAttempt, State.ring_congr (s.recordSegment_blocks c .cut).2.2.1]

theorem State.unit_cutClosed (q : Port) :
    (s.cutClosed c res).unit q = { s.unit q with results := ((s.cutClosed c res).unit q).results } := by
  have hunits := (State.closeAttempt_blocks c res (State.attempt_recordSegment ha .cut)).2.2.2.2.2.2.2.2
  rw [State.cutClosed, State.unit_congr hunits, State.unit_recordAttempt,
    State.unit_congr (s.recordSegment_blocks c .cut).2.2.2.1]

omit ha in
theorem State.order_recordSegment (reason : EndReason) (l : Lane) (k : SlotId) :
    (s.recordSegment c reason).order l k = s.order l k := State.order_congr (s.recordSegment_blocks c reason).1 l k

variable {o} (ho : s.order a.lane a.slot = some o)
include ho

theorem State.records_cutClosed_discard (hdiscard : o.discard = true) :
    ((s.cutClosed c res).ring a.lane).records = (s.ring a.lane).records := by
  rw [State.ring_cutClosed res ha, State.ring_recordAttempt_discard c res ((State.order_recordSegment .cut _ _).trans ho)
    hdiscard, if_pos rfl, State.ring_congr (s.recordSegment_blocks c .cut).2.2.1]

/-- The record of the cut attempt joins its lane's ring. -/
theorem State.records_cutClosed (hdiscard : o.discard = false) : ∃ r : JointRecord,
    ((s.cutClosed c res).ring a.lane).records = (s.ring a.lane).records ++ [.joint r] ∧
      EndRecord s.now (s.recipe a.recipe) c a o.tag res r ∧ CutEntries s.now (s.recipe a.recipe) (s.chan c).heat r ∧
      NoHeating (s.chan c).heat r := by
  obtain ⟨-, -, hrings, -, hrecipes, -, -, hcabinet, -⟩ := s.recordSegment_blocks c .cut
  have hrecord := (s.recordSegment c .cut).endRecord_jointRecord c a o res
  have hnow : (s.recordSegment c .cut).now = s.now := by rw [State.now, hcabinet, State.now]
  have hrecipe : (s.recordSegment c .cut).recipe a.recipe = s.recipe a.recipe := by
    rw [State.recipe, hrecipes, State.recipe]
  rw [hnow, hrecipe] at hrecord
  refine ⟨_, ?_, hrecord, State.cutEntries_jointRecord o res ha, fun h => ?_⟩
  · rw [State.ring_cutClosed res ha, State.ring_recordAttempt_writes c res ((State.order_recordSegment .cut _ _).trans
      ho) hdiscard, if_pos rfl, State.ring_congr hrings]
  · exact State.noHeating_jointRecord _ c a o res (State.heat_recordSegment_none s c h .cut)
end

/-! ### Loops that write records -/

/-- A loop whose steps act each on its own channel, and write one record for a channel that `acts`: the records stand in
the order of the channels, and each says of its channel what its step made it say. -/
theorem foldl_records {f : State → ChannelId → State} {v : State → List Record} {acts : ChannelRec → Bool}
    {kept : State → Prop} {tells : ChannelRec → JointRecord → Prop} (hkept : ∀ t c, kept t → kept (f t c))
    (hother : ∀ t c d, d ≠ c → (f t c).chan d = t.chan d)
    (hquiet : ∀ t c, kept t → acts (t.chan c) = false → v (f t c) = v t)
    (hwrites : ∀ t c, kept t → acts (t.chan c) = true →
      ∃ r : JointRecord, v (f t c) = v t ++ [.joint r] ∧ r.channel = c ∧ tells (t.chan c) r)
    {cs : List ChannelId} (hn : cs.Nodup) {s : State} (hs : kept s) :
    ∃ rs : List JointRecord, v (cs.foldl f s) = v s ++ rs.map Record.joint ∧
      rs.map (·.channel) = cs.filter (fun c => acts (s.chan c)) ∧ ∀ r ∈ rs, tells (s.chan r.channel) r := by
  induction cs generalizing s with
  | nil => exact ⟨[], by simp, rfl, fun r hr => absurd hr List.not_mem_nil⟩
  | cons c cs ih =>
    obtain ⟨hc, hn⟩ := List.nodup_cons.mp hn
    obtain ⟨rs, hrecords, hchannels, htells⟩ := ih hn (hkept s c hs)
    have hchan : ∀ d ∈ cs, (f s c).chan d = s.chan d := fun d hd => hother s c d fun e => hc (e ▸ hd)
    have hfilter : cs.filter (fun d => acts ((f s c).chan d)) = cs.filter fun d => acts (s.chan d) :=
      List.filter_congr fun d hd => by rw [hchan d hd]
    have htells' : ∀ r ∈ rs, tells (s.chan r.channel) r := fun r hr => by
      have hmem : r.channel ∈ cs := by
        have hin := List.mem_map_of_mem (f := fun r : JointRecord => r.channel) hr
        rw [hchannels] at hin
        exact (List.mem_filter.mp hin).1
      rw [← hchan _ hmem]
      exact htells r hr
    rw [List.foldl_cons, List.filter_cons]
    rw [hfilter] at hchannels
    cases hacts : acts (s.chan c) with
    | false =>
      rw [if_neg Bool.false_ne_true]
      rw [hquiet s c hs hacts] at hrecords
      exact ⟨rs, hrecords, hchannels, htells'⟩
    | true =>
      obtain ⟨r, hr, hrc, hrtells⟩ := hwrites s c hs hacts
      rw [if_pos rfl]
      refine ⟨r :: rs, ?_, ?_, fun r' hr' => ?_⟩
      · rw [hrecords, hr, List.map_cons, List.append_assoc, List.singleton_append]
      · rw [List.map_cons, hchannels, hrc]
      · rcases List.mem_cons.mp hr' with rfl | hr'
        · rw [hrc]
          exact hrtells
        · exact htells' r' hr'

/-- The sum over the elements a filter keeps. -/
theorem sum_map_filter {ι : Type*} (p : ι → Bool) (f : ι → Nat) (xs : List ι) :
    ((xs.filter p).map f).sum = (xs.map fun x => if p x then f x else 0).sum := by
  induction xs with
  | nil => rfl
  | cons x xs ih =>
    rw [List.filter_cons, List.map_cons, List.sum_cons, ← ih]
    split
    · rw [List.map_cons, List.sum_cons]
    · rw [Nat.zero_add]

end Sys2Proof.Machine
end

section
/-! PROOF. The abort of an active order (R18, R19). -/

namespace Sys2Proof.Machine

/-- The abort cuts the channel's attempt. -/
def ChannelRec.cutBy (l : Lane) (k : SlotId) (r : ChannelRec) : Bool :=
  r.state == .heating && r.attempt.any fun a => a.lane == l && a.slot == k

/-- What a cut attempt of the order counts. -/
def ChannelRec.cutAmount (l : Lane) (k : SlotId) (f : Attempt → Nat) (r : ChannelRec) : Nat :=
  if r.cutBy l k then (r.attempt.map f).getD 0 else 0

theorem ChannelRec.cutBy_iff {l : Lane} {k : SlotId} {r : ChannelRec} : r.cutBy l k = true ↔
    ∃ a, r.attempt = some a ∧ r.state = .heating ∧ a.lane = l ∧ a.slot = k := by
  simp only [ChannelRec.cutBy, Bool.and_eq_true, beq_iff_eq, Option.any_eq_true]
  constructor
  · rintro ⟨hstate, a, ha, hl, hk⟩
    exact ⟨a, ha, hstate, hl, hk⟩
  · rintro ⟨a, ha, hstate, hl, hk⟩
    exact ⟨hstate, a, ha, hl, hk⟩

/-- The channel's record after the abort has passed it. -/
def ChannelRec.abortedBy (l : Lane) (k : SlotId) (r : ChannelRec) : ChannelRec :=
  if r.servesOrder l k then
    if r.state = .heating then r.clear else { r with attempt := r.attempt.map fun a => { a with abandoned := true } }
  else r

/-- The joint takes ABORTED. -/
def Order.abortJoint (o : Order) (i : Nat) : Order := o.modJoint i fun j => j.giveOutcome .aborted

section
variable {t : State} {l : Lane} {k : SlotId} {c : ChannelId}

theorem ChannelRec.servesOrder_iff {r : ChannelRec} {l : Lane} {k : SlotId} : r.servesOrder l k = true ↔
    ∃ a, r.attempt = some a ∧ a.lane = l ∧ a.slot = k := by
  simp only [ChannelRec.servesOrder, Option.any_eq_true, Bool.and_eq_true, beq_iff_eq]

/-- The three things the abort does to a channel. -/
theorem State.abortChannel_cases (t : State) (l : Lane) (k : SlotId) (c : ChannelId) :
    (∃ a, (t.chan c).attempt = some a ∧ (t.chan c).state = .heating ∧ a.lane = l ∧ a.slot = k ∧
      State.abortChannel l k t c =
        (t.cutClosed c .aborted).modJoint l k a.joint fun j => j.giveOutcome .aborted) ∨
    ((t.chan c).cutBy l k = false ∧ State.abortChannel l k t c = t.setChan c ((t.chan c).abortedBy l k)) := by
  unfold State.abortChannel ChannelRec.abortedBy
  cases hserves : (t.chan c).servesOrder l k with
  | false =>
    refine Or.inr ⟨?_, ?_⟩
    · refine Bool.eq_false_iff.mpr fun hcut => ?_
      obtain ⟨a, ha, -, hl, hk⟩ := ChannelRec.cutBy_iff.mp hcut
      rw [ChannelRec.servesOrder_iff.mpr ⟨a, ha, hl, hk⟩] at hserves
      cases hserves
    · rw [if_neg Bool.false_ne_true, if_neg Bool.false_ne_true]
      exact (t.setChan_self c).symm
  | true =>
    obtain ⟨a, ha, hl, hk⟩ := ChannelRec.servesOrder_iff.mp hserves
    rw [if_pos rfl, ha]
    by_cases hstate : (t.chan c).state = .heating
    · refine Or.inl ⟨a, rfl, hstate, hl, hk, if_pos hstate⟩
    · refine Or.inr ⟨Bool.eq_false_iff.mpr fun hcut => ?_, ?_⟩
      · obtain ⟨-, -, hheating, -⟩ := ChannelRec.cutBy_iff.mp hcut
        exact hstate hheating
      · simp only [if_neg hstate, if_true, Option.map_some, State.modChan_eq]

theorem State.modJoint_blocks (t : State) (l : Lane) (k : SlotId) (i : Nat) (f : Joint → Joint) :
    (t.modJoint l k i f).heads = t.heads ∧ (t.modJoint l k i f).recipes = t.recipes ∧
      (t.modJoint l k i f).faults = t.faults ∧ (t.modJoint l k i f).cabinet = t.cabinet ∧
      (t.modJoint l k i f).ports = t.ports ∧ (t.modJoint l k i f).arbiter = t.arbiter ∧
      (t.modJoint l k i f).rings = t.rings ∧ (t.modJoint l k i f).units = t.units ∧
      (∀ m, ((t.modJoint l k i f).om m).deadline = (t.om m).deadline ∧
        ((t.modJoint l k i f).om m).halted = (t.om m).halted) ∧
      ∀ m n, (m ≠ l ∨ n ≠ k) → (t.modJoint l k i f).order m n = t.order m n := by
  unfold State.modJoint State.modOrder
  split
  · refine ⟨rfl, rfl, rfl, rfl, rfl, rfl, rfl, rfl, fun m => ?_, fun m n hne => ?_⟩
    · rw [State.om_setSlot]
      split
      · rename_i hm
        rw [hm]
        exact ⟨rfl, rfl⟩
      · exact ⟨rfl, rfl⟩
    · rw [State.order_setSlot, if_neg fun h => hne.elim (fun hm => hm h.1) fun hn => hn h.2]
  · exact ⟨rfl, rfl, rfl, rfl, rfl, rfl, rfl, rfl, fun _ => ⟨rfl, rfl⟩, fun _ _ _ => rfl⟩

theorem State.chan_abortChannel (t : State) (l : Lane) (k : SlotId) (c d : ChannelId) :
    (State.abortChannel l k t c).chan d = if d = c then (t.chan c).abortedBy l k else t.chan d := by
  rcases t.abortChannel_cases l k c with ⟨a, ha, hstate, hl, hk, heq⟩ | ⟨-, heq⟩
  · have habort : (t.chan c).abortedBy l k = (t.chan c).clear := by
      rw [ChannelRec.abortedBy, if_pos (ChannelRec.servesOrder_iff.mpr ⟨a, ha, hl, hk⟩), if_pos hstate]
    rw [heq, State.chan_modJoint, State.chan_cutClosed _ ha, habort]
  · rw [heq, State.chan_setChan]

/-- What the abort of a channel leaves unchanged. -/
theorem State.abortChannel_blocks (t : State) (l : Lane) (k : SlotId) (c : ChannelId) :
    (State.abortChannel l k t c).heads = t.heads ∧ (State.abortChannel l k t c).recipes = t.recipes ∧
      (State.abortChannel l k t c).faults = t.faults ∧ (State.abortChannel l k t c).cabinet = t.cabinet ∧
      (State.abortChannel l k t c).ports = t.ports ∧
      (State.abortChannel l k t c).arbiter =
        { t.arbiter with committed := t.arbiter.committed - (t.chan c).cutAmount l k (·.peak) } := by
  rcases t.abortChannel_cases l k c with ⟨a, ha, hstate, hl, hk, heq⟩ | ⟨hcut, heq⟩
  · obtain ⟨-, hheads, hrecipes, harbiter, hfaults, hcabinet, hports⟩ := State.cutClosed_blocks .aborted ha
    obtain ⟨h1, h2, h3, h4, h5, h6, -⟩ := (t.cutClosed c .aborted).modJoint_blocks l k a.joint
      fun j => j.giveOutcome .aborted
    have hamount : (t.chan c).cutAmount l k (·.peak) = a.peak := by
      rw [ChannelRec.cutAmount, if_pos (ChannelRec.cutBy_iff.mpr ⟨a, ha, hstate, hl, hk⟩), ha]
      rfl
    rw [heq, hamount]
    exact ⟨h1.trans hheads, h2.trans hrecipes, h3.trans hfaults, h4.trans hcabinet, h5.trans hports, h6.trans harbiter⟩
  · have hamount : (t.chan c).cutAmount l k (·.peak) = 0 := if_neg (Bool.eq_false_iff.mp hcut)
    rw [heq, hamount]
    exact ⟨rfl, rfl, rfl, rfl, rfl, rfl⟩

/-- What the abort of a channel leaves of the lanes and the ports. -/
theorem State.abortChannel_lanes (t : State) (l : Lane) (k : SlotId) (c : ChannelId) :
    (∀ m, ((State.abortChannel l k t c).om m).deadline = (t.om m).deadline ∧
      ((State.abortChannel l k t c).om m).halted = (t.om m).halted) ∧
    (∀ m n, (m ≠ l ∨ n ≠ k) → (State.abortChannel l k t c).order m n = t.order m n) ∧
    (∀ q, ((State.abortChannel l k t c).unit q).halted = (t.unit q).halted) ∧
    (∀ m, m ≠ l → (State.abortChannel l k t c).ring m = t.ring m) ∧
    ((State.abortChannel l k t c).ring l).reader = (t.ring l).reader ∧
    ((State.abortChannel l k t c).ring l).reserved = (t.ring l).reserved -
      (t.chan c).cutAmount l k fun a => 8 + 2 * (t.recipe a.recipe).segments.length := by
  rcases t.abortChannel_cases l k c with ⟨a, ha, hstate, hl, hk, heq⟩ | ⟨hcut, heq⟩
  · obtain ⟨-, -, -, -, -, -, hrings, hunits, hom, horder⟩ := (t.cutClosed c .aborted).modJoint_blocks l k a.joint
      fun j => j.giveOutcome .aborted
    have homs := (State.cutClosed_blocks .aborted ha).1
    have hring := State.ring_congr hrings
    have hamount : ((t.chan c).cutAmount l k fun a => 8 + 2 * (t.recipe a.recipe).segments.length) =
        8 + 2 * (t.recipe a.recipe).segments.length := by
      rw [ChannelRec.cutAmount, if_pos (ChannelRec.cutBy_iff.mpr ⟨a, ha, hstate, hl, hk⟩), ha]
      rfl
    rw [heq, hamount]
    refine ⟨fun m => ?_, fun m n hne => ?_, fun q => ?_, fun m hm => ?_, ?_, ?_⟩
    · rw [(hom m).1, (hom m).2, State.om_congr homs]
      exact ⟨rfl, rfl⟩
    · rw [horder m n hne, State.order_congr homs]
    · rw [State.unit_congr hunits, State.unit_cutClosed _ ha]
    · rw [hring, State.ring_cutClosed_other _ ha (hl ▸ hm)]
    · rw [hring, State.reader_cutClosed _ ha]
    · rw [hring, State.reserved_cutClosed _ ha, if_pos hl.symm]
  · have hamount : ((t.chan c).cutAmount l k fun a => 8 + 2 * (t.recipe a.recipe).segments.length) = 0 :=
      if_neg (Bool.eq_false_iff.mp hcut)
    rw [heq, hamount]
    exact ⟨fun _ => ⟨rfl, rfl⟩, fun _ _ _ => rfl, fun _ => rfl, fun _ _ => rfl, rfl, rfl⟩

theorem State.order_abortChannel {o : Order} (ho : t.order l k = some o) :
    (∀ a, (t.chan c).attempt = some a → (t.chan c).state = .heating → a.lane = l → a.slot = k →
      (State.abortChannel l k t c).order l k = some (o.abortJoint a.joint)) ∧
    ((t.chan c).cutBy l k = false → (State.abortChannel l k t c).order l k = some o) := by
  rcases t.abortChannel_cases l k c with ⟨a, ha, hstate, hl, hk, heq⟩ | ⟨hcut, heq⟩
  · refine ⟨fun a' ha' _ _ _ => ?_, fun hcut => ?_⟩
    · obtain rfl : a = a' := Option.some.inj (ha.symm.trans ha')
      have ho' : (t.cutClosed c .aborted).order l k = some o :=
        (State.order_congr (State.cutClosed_blocks .aborted ha).1 l k).trans ho
      rw [heq, State.modJoint_of_order ho', State.order_setSlot, if_pos ⟨rfl, rfl⟩]
      rfl
    · rw [ChannelRec.cutBy_iff.mpr ⟨a, ha, hstate, hl, hk⟩] at hcut
      cases hcut
  · refine ⟨fun a ha hstate hl hk => ?_, fun _ => heq ▸ ho⟩
    rw [ChannelRec.cutBy_iff.mpr ⟨a, ha, hstate, hl, hk⟩] at hcut
    cases hcut

theorem State.records_abortChannel {o : Order} (ho : t.order l k = some o) :
    (o.discard = true ∨ (t.chan c).cutBy l k = false →
      ((State.abortChannel l k t c).ring l).records = (t.ring l).records) ∧
    (o.discard = false → ∀ a, (t.chan c).attempt = some a → (t.chan c).state = .heating → a.lane = l → a.slot = k →
      ∃ r : JointRecord, ((State.abortChannel l k t c).ring l).records = (t.ring l).records ++ [.joint r] ∧
        EndRecord t.now (t.recipe a.recipe) c a o.tag .aborted r ∧
        CutEntries t.now (t.recipe a.recipe) (t.chan c).heat r) := by
  rcases t.abortChannel_cases l k c with ⟨a, ha, hstate, hl, hk, heq⟩ | ⟨hcut, heq⟩
  · obtain ⟨-, -, -, -, -, -, hrings, -⟩ := (t.cutClosed c .aborted).modJoint_blocks l k a.joint
      fun j => j.giveOutcome .aborted
    have ho' : t.order a.lane a.slot = some o := by rw [hl, hk, ho]
    rw [heq, State.ring_congr hrings]
    refine ⟨fun hquiet => ?_, fun hdiscard a' ha' _ _ _ => ?_⟩
    · rcases hquiet with hdiscard | hcut
      · have hrecords := State.records_cutClosed_discard .aborted ha ho' hdiscard
        rwa [hl] at hrecords
      · rw [ChannelRec.cutBy_iff.mpr ⟨a, ha, hstate, hl, hk⟩] at hcut
        cases hcut
    · obtain rfl : a = a' := Option.some.inj (ha.symm.trans ha')
      obtain ⟨r, hr, hend, hentries, -⟩ := State.records_cutClosed .aborted ha ho' hdiscard
      rw [hl] at hr
      exact ⟨r, hr, hend, hentries⟩
  · refine ⟨fun _ => heq ▸ rfl, fun _ a ha hstate hl hk => ?_⟩
    rw [ChannelRec.cutBy_iff.mpr ⟨a, ha, hstate, hl, hk⟩] at hcut
    cases hcut
end

/-! ### The loop over the channels -/

/-- The attempt cut on a channel of `cs` is on the joint. -/
def State.cutsJoint (t : State) (l : Lane) (k : SlotId) (cs : List ChannelId) (i : Nat) : Prop :=
  ∃ c ∈ cs, ∃ a, (t.chan c).attempt = some a ∧ (t.chan c).state = .heating ∧ a.lane = l ∧ a.slot = k ∧ a.joint = i

theorem Order.getElem?_abortJoint {o : Order} {i n : Nat} {j : Joint} (hj : o.joints[n]? = some j) :
    (o.abortJoint i).joints[n]? = some (if n = i then j.giveOutcome .aborted else j) := by
  rw [Order.abortJoint, Order.modJoint, List.getElem?_modify, hj]
  by_cases hn : n = i
  · rw [if_pos hn, hn]
    simp
  · rw [if_neg hn]
    simp [Ne.symm hn]

/-- The joints of the cut attempts take ABORTED, the other ones stay, and nothing else of the order changes. -/
theorem State.order_foldl_abort {l : Lane} {k : SlotId} {cs : List ChannelId} (hn : cs.Nodup) {t : State} {o : Order}
    (ho : t.order l k = some o) : ∃ o', (cs.foldl (State.abortChannel l k) t).order l k = some o' ∧
      o' = { o with joints := o'.joints } ∧ o'.joints.length = o.joints.length ∧
      ∀ n j, o.joints[n]? = some j →
        (t.cutsJoint l k cs n → o'.joints[n]? = some (j.giveOutcome .aborted)) ∧
        (¬ t.cutsJoint l k cs n → o'.joints[n]? = some j) := by
  induction cs generalizing t o with
  | nil => exact ⟨o, ho, rfl, rfl, fun n j hj => ⟨fun ⟨c, hc, _⟩ => absurd hc List.not_mem_nil, fun _ => hj⟩⟩
  | cons c cs ih =>
    obtain ⟨hc, hn⟩ := List.nodup_cons.mp hn
    obtain ⟨hcut, hquiet⟩ := State.order_abortChannel (c := c) ho
    have hrest : ∀ n, (State.abortChannel l k t c).cutsJoint l k cs n ↔ t.cutsJoint l k cs n := fun n => by
      refine exists_congr fun d => and_congr_right fun hd => ?_
      have hne : d ≠ c := fun e => hc (e ▸ hd)
      rw [State.chan_abortChannel, if_neg hne]
    rw [List.foldl_cons]
    cases hacts : (t.chan c).cutBy l k with
    | false =>
      obtain ⟨o', ho', hkept, hlength, hjoints⟩ := ih hn (hquiet hacts)
      have hiff : ∀ n, t.cutsJoint l k (c :: cs) n ↔ t.cutsJoint l k cs n := fun n => by
        refine ⟨fun ⟨d, hd, a, ha, hstate, hl, hk, hi⟩ => ?_,
          fun ⟨d, hd, h⟩ => ⟨d, List.mem_cons_of_mem _ hd, h⟩⟩
        rcases List.mem_cons.mp hd with rfl | hd
        · rw [ChannelRec.cutBy_iff.mpr ⟨a, ha, hstate, hl, hk⟩] at hacts
          cases hacts
        · exact ⟨d, hd, a, ha, hstate, hl, hk, hi⟩
      refine ⟨o', ho', hkept, hlength, fun n j hj => ?_⟩
      rw [hiff, ← hrest]
      exact hjoints n j hj
    | true =>
      obtain ⟨a, ha, hstate, hl, hk⟩ := ChannelRec.cutBy_iff.mp hacts
      obtain ⟨o', ho', hkept, hlength, hjoints⟩ := ih hn (hcut a ha hstate hl hk)
      refine ⟨o', ho', ?_, ?_, fun n j hj => ?_⟩
      · rw [hkept]
        rfl
      · rw [hlength, Order.abortJoint, Order.modJoint]
        exact List.length_modify ..
      · obtain ⟨hcuts, hleaves⟩ := hjoints n _ (Order.getElem?_abortJoint (i := a.joint) hj)
        rw [hrest] at hcuts hleaves
        by_cases hi : n = a.joint
        · rw [if_pos hi] at hcuts hleaves
          refine ⟨fun _ => ?_, fun hnot => absurd ⟨c, List.mem_cons_self, a, ha, hstate, hl, hk, hi.symm⟩ hnot⟩
          by_cases hagain : t.cutsJoint l k cs n
          · exact hcuts hagain
          · exact hleaves hagain
        · rw [if_neg hi] at hcuts hleaves
          refine ⟨fun ⟨d, hd, a', ha', hd'⟩ => hcuts ?_, fun hnot => hleaves fun ⟨d, hd, h⟩ =>
            hnot ⟨d, List.mem_cons_of_mem _ hd, h⟩⟩
          rcases List.mem_cons.mp hd with rfl | hd
          · obtain rfl : a = a' := Option.some.inj (ha.symm.trans ha')
            exact absurd hd'.2.2.2.symm hi
          · exact ⟨d, hd, a', ha', hd'⟩

/-- The order with its abort flag set and its joints wound down, before the cuts. -/
def State.aborting (s : State) (l : Lane) (k : SlotId) (o : Order) : State :=
  (s.setSlot l k (some { o with abort := true })).windDown l k .notRun

/-- The state of an abort before the completion check. -/
def State.abortedLane (s : State) (l : Lane) (k : SlotId) (o : Order) : State :=
  allChannels.foldl (State.abortChannel l k) (s.aborting l k o)

theorem State.abortOrder_again {s : State} {l : Lane} {k : SlotId} {o : Order} (h : o.abort = true) :
    s.abortOrder l k o = s := if_pos h

theorem State.abortOrder_first {s : State} {l : Lane} {k : SlotId} {o : Order} (ho : s.order l k = some o)
    (h : o.abort = false) : s.abortOrder l k o = ((s.abortedLane l k o).completionCheck l).arbitrate := by
  unfold State.abortOrder
  rw [if_neg (h ▸ Bool.false_ne_true), State.modOrder_of_order ho]
  rfl

section
variable {s : State} {l : Lane} {k : SlotId} {o : Order} (ho : s.order l k = some o) (hstate : o.state ≠ .posted)

theorem State.order_flagged :
    (s.setSlot l k (some { o with abort := true })).order l k = some { o with abort := true } := by
  rw [State.order_setSlot, if_pos ⟨rfl, rfl⟩]

theorem State.aborting_blocks : (s.aborting l k o).heads = s.heads ∧ (s.aborting l k o).channels = s.channels ∧
    (s.aborting l k o).rings = s.rings ∧ (s.aborting l k o).recipes = s.recipes ∧
    (s.aborting l k o).faults = s.faults ∧ (s.aborting l k o).cabinet = s.cabinet ∧
    (s.aborting l k o).ports = s.ports := State.windDown_blocks State.order_flagged .notRun

theorem State.arbiter_aborting :
    (s.aborting l k o).arbiter = { s.arbiter with stays := (s.aborting l k o).arbiter.stays } :=
  State.arbiter_windDown State.order_flagged .notRun

include hstate in
theorem State.order_aborting (m : Lane) (n : SlotId) : (s.aborting l k o).order m n = if m = l ∧ n = k then
    some { o with abort := true, state := .running, joints := o.joints.map (settledJoint .notRun) }
    else s.order m n := by
  rw [State.aborting, State.order_windDown State.order_flagged hstate, State.order_setSlot]
  split <;> rfl

theorem State.om_aborting : ((s.aborting l k o).om l).deadline = none ∧ ((s.aborting l k o).om l).halted = [] := by
  rw [State.aborting, State.om_windDown State.order_flagged, if_pos rfl]
  exact ⟨rfl, rfl⟩

theorem State.halted_aborting : ((s.aborting l k o).unit (lanePort l)).halted =
    if o.state = .halted then false else (s.unit (lanePort l)).halted := by
  rw [State.aborting, State.unit_windDown State.order_flagged, if_pos rfl]
  rfl

theorem State.stay_aborting (c : ChannelId) :
    (s.aborting l k o).stay c = (s.stay c).filter fun h => (s.head h).lane != some l :=
  State.stay_windDown State.order_flagged .notRun c
end

/-! ### The loop's sums and frames -/

section
variable (t : State) (l : Lane) (k : SlotId)

theorem State.chan_foldl_abort (c : ChannelId) :
    (allChannels.foldl (State.abortChannel l k) t).chan c = (t.chan c).abortedBy l k := by
  have hfold := State.chan_foldl (State.abortChannel l k) (ChannelRec.abortedBy l k)
    (fun t c d => t.chan_abortChannel l k c d) allChannels nodup_allChannels t c
  rwa [if_pos (mem_allChannels c)] at hfold

theorem State.committed_foldl_abort : (allChannels.foldl (State.abortChannel l k) t).arbiter.committed =
    t.arbiter.committed - (allChannels.map fun c => (t.chan c).cutAmount l k (·.peak)).sum :=
  foldl_sub (f := State.abortChannel l k) (v := fun t => t.arbiter.committed)
    (w := fun t c => (t.chan c).cutAmount l k (·.peak))
    (fun t c => by rw [(t.abortChannel_blocks l k c).2.2.2.2.2])
    (fun t c d hd => by rw [State.chan_abortChannel, if_neg hd]) nodup_allChannels t

theorem State.reserved_foldl_abort : ((allChannels.foldl (State.abortChannel l k) t).ring l).reserved =
    (t.ring l).reserved - (allChannels.map fun c =>
      (t.chan c).cutAmount l k fun a => 8 + 2 * (t.recipe a.recipe).segments.length).sum :=
  foldl_sub (f := State.abortChannel l k) (v := fun t => (t.ring l).reserved)
    (w := fun t c => (t.chan c).cutAmount l k fun a => 8 + 2 * (t.recipe a.recipe).segments.length)
    (fun t c => (t.abortChannel_lanes l k c).2.2.2.2.2)
    (fun t c d hd => by
      have hrecipe : (State.abortChannel l k t c).recipe = t.recipe := funext fun i => by
        rw [State.recipe, (t.abortChannel_blocks l k c).2.1, State.recipe]
      rw [State.chan_abortChannel, if_neg hd, hrecipe]) nodup_allChannels t

theorem State.foldl_abort_blocks (cs : List ChannelId) :
    (cs.foldl (State.abortChannel l k) t).heads = t.heads ∧ (cs.foldl (State.abortChannel l k) t).recipes = t.recipes ∧
      (cs.foldl (State.abortChannel l k) t).faults = t.faults ∧
      (cs.foldl (State.abortChannel l k) t).cabinet = t.cabinet ∧
      (cs.foldl (State.abortChannel l k) t).ports = t.ports ∧
      (cs.foldl (State.abortChannel l k) t).arbiter.budget = t.arbiter.budget ∧
      (cs.foldl (State.abortChannel l k) t).arbiter.candidate = t.arbiter.candidate ∧
      (cs.foldl (State.abortChannel l k) t).arbiter.stays = t.arbiter.stays := by
  have hkept := foldl_keeps (f := State.abortChannel l k) (v := fun t => (t.heads, t.recipes, t.faults, t.cabinet,
    t.ports, t.arbiter.budget, t.arbiter.candidate, t.arbiter.stays)) (fun t c => by
      obtain ⟨h1, h2, h3, h4, h5, h6⟩ := t.abortChannel_blocks l k c
      rw [h1, h2, h3, h4, h5, h6]) cs t
  simpa only [Prod.mk.injEq] using hkept

theorem State.foldl_abort_lanes (cs : List ChannelId) :
    ((cs.foldl (State.abortChannel l k) t).om l).deadline = (t.om l).deadline ∧
      ((cs.foldl (State.abortChannel l k) t).om l).halted = (t.om l).halted ∧
      ((cs.foldl (State.abortChannel l k) t).unit (lanePort l)).halted = (t.unit (lanePort l)).halted ∧
      ((cs.foldl (State.abortChannel l k) t).ring l).reader = (t.ring l).reader := by
  have hkept := foldl_keeps (f := State.abortChannel l k) (v := fun t => ((t.om l).deadline, (t.om l).halted,
    (t.unit (lanePort l)).halted, (t.ring l).reader)) (fun t c => by
      obtain ⟨hom, -, hunit, -, hreader, -⟩ := t.abortChannel_lanes l k c
      rw [(hom l).1, (hom l).2, hunit, hreader]) cs t
  simpa only [Prod.mk.injEq] using hkept

theorem State.foldl_abort_order {m : Lane} {n : SlotId} (hne : m ≠ l ∨ n ≠ k) (cs : List ChannelId) :
    (cs.foldl (State.abortChannel l k) t).order m n = t.order m n :=
  foldl_keeps (f := State.abortChannel l k) (v := fun t => t.order m n)
    (fun t c => (t.abortChannel_lanes l k c).2.1 m n hne) cs t

theorem State.foldl_abort_ring {m : Lane} (hm : m ≠ l) (cs : List ChannelId) :
    (cs.foldl (State.abortChannel l k) t).ring m = t.ring m :=
  foldl_keeps (f := State.abortChannel l k) (v := fun t => t.ring m)
    (fun t c => (t.abortChannel_lanes l k c).2.2.2.1 m hm) cs t

/-- What the loop keeps for the records it writes. -/
def State.sameOrder (t0 : State) (l : Lane) (k : SlotId) (tag : Word) (discard : Bool) (t : State) : Prop :=
  t.recipes = t0.recipes ∧ t.cabinet = t0.cabinet ∧ ∃ o, t.order l k = some o ∧ o.tag = tag ∧ o.discard = discard

variable {t l k}

theorem State.sameOrder_abortChannel {tag : Word} {discard : Bool} (u : State) (c : ChannelId)
    (hu : t.sameOrder l k tag discard u) : t.sameOrder l k tag discard (State.abortChannel l k u c) := by
  obtain ⟨hrecipes, hcabinet, o, ho, htag, hdiscard⟩ := hu
  obtain ⟨-, hrecipes', -, hcabinet', -⟩ := u.abortChannel_blocks l k c
  obtain ⟨hcut, hquiet⟩ := State.order_abortChannel (c := c) ho
  refine ⟨hrecipes'.trans hrecipes, hcabinet'.trans hcabinet, ?_⟩
  cases hacts : (u.chan c).cutBy l k with
  | false => exact ⟨o, hquiet hacts, htag, hdiscard⟩
  | true =>
    obtain ⟨a, ha, hstate, hl, hk⟩ := ChannelRec.cutBy_iff.mp hacts
    exact ⟨o.abortJoint a.joint, hcut a ha hstate hl hk, htag, hdiscard⟩

theorem State.records_foldl_discard {o : Order} (ho : t.order l k = some o) (hdiscard : o.discard = true)
    (cs : List ChannelId) :
    ((cs.foldl (State.abortChannel l k) t).ring l).records = (t.ring l).records := by
  have hfold : ∀ u, t.sameOrder l k o.tag true u →
      ((cs.foldl (State.abortChannel l k) u).ring l).records = (u.ring l).records := by
    induction cs with
    | nil => exact fun u _ => rfl
    | cons c cs ih =>
      intro u hu
      have ⟨_, _, o', ho', _, hdiscard'⟩ := hu
      exact (ih _ (State.sameOrder_abortChannel u c hu)).trans
        ((State.records_abortChannel (c := c) ho').1 (Or.inl hdiscard'))
  exact hfold t ⟨rfl, rfl, o, ho, rfl, hdiscard⟩

/-- The records of the cut attempts, in channel order. -/
theorem State.records_foldl_abort {o : Order} (ho : t.order l k = some o) (hdiscard : o.discard = false) :
    ∃ rs : List JointRecord, ((allChannels.foldl (State.abortChannel l k) t).ring l).records =
        (t.ring l).records ++ rs.map Record.joint ∧
      rs.map (·.channel) = allChannels.filter (fun c => (t.chan c).cutBy l k) ∧
      ∀ r ∈ rs, ∃ a, (t.chan r.channel).attempt = some a ∧ a.lane = l ∧ a.slot = k ∧
        EndRecord t.now (t.recipe a.recipe) r.channel a o.tag .aborted r ∧
        CutEntries t.now (t.recipe a.recipe) (t.chan r.channel).heat r := by
  refine foldl_records (f := State.abortChannel l k) (v := fun u => (u.ring l).records)
    (acts := ChannelRec.cutBy l k) (kept := t.sameOrder l k o.tag false)
    (tells := fun ch r => ∃ a, ch.attempt = some a ∧ a.lane = l ∧ a.slot = k ∧
      EndRecord t.now (t.recipe a.recipe) r.channel a o.tag .aborted r ∧
      CutEntries t.now (t.recipe a.recipe) ch.heat r)
    State.sameOrder_abortChannel (fun u c d hd => (u.chan_abortChannel l k c d).trans (if_neg hd))
    (fun u c hu hacts => ?_) (fun u c hu hacts => ?_) nodup_allChannels ⟨rfl, rfl, o, ho, rfl, hdiscard⟩
  · obtain ⟨-, -, o', ho', -, -⟩ := hu
    exact (State.records_abortChannel (c := c) ho').1 (Or.inr hacts)
  · obtain ⟨hrecipes, hcabinet, o', ho', htag', hdiscard'⟩ := hu
    obtain ⟨a, ha, hstate, hl, hk⟩ := ChannelRec.cutBy_iff.mp hacts
    obtain ⟨r, hr, hend, hentries⟩ := (State.records_abortChannel (c := c) ho').2 hdiscard' a ha hstate hl hk
    have hnow : u.now = t.now := by rw [State.now, hcabinet, State.now]
    have hrecipe : u.recipe a.recipe = t.recipe a.recipe := by rw [State.recipe, hrecipes, State.recipe]
    rw [hnow, hrecipe] at hend hentries
    rw [htag'] at hend
    exact ⟨r, hr, hend.channel, a, ha, hl, hk, hend.channel.symm ▸ hend, hentries⟩
end

theorem total_eq_sum (s : State) (l : Lane) (k : SlotId) (f : Attempt → Nat) :
    ((allChannels.filter fun c => (s.chan c).cutBy l k).map fun c => ((s.chan c).attempt.map f).getD 0).sum =
      (allChannels.map fun c => (s.chan c).cutAmount l k f).sum := sum_map_filter _ _ _

theorem cutsJoint_allChannels {s : State} {l : Lane} {k : SlotId} {i : Nat} : s.cutsJoint l k allChannels i ↔
    ∃ c a, (s.chan c).attempt = some a ∧ (s.chan c).state = .heating ∧ a.lane = l ∧ a.slot = k ∧ a.joint = i :=
  exists_congr fun c => and_iff_right (mem_allChannels c)

theorem cutsJoint_congr {s t : State} (h : t.chan = s.chan) (l : Lane) (k : SlotId) (i : Nat) :
    t.cutsJoint l k allChannels i ↔ s.cutsJoint l k allChannels i := by
  unfold State.cutsJoint
  rw [h]

/-- Settles O21: the order winds down, then the loop over the channels cuts and abandons. -/
theorem abortCutsActiveOrder : Obligations.AbortCutsActiveOrder := by
  intro p l tag k o s hport htakes hsetup ho hstate
  have hbody := abortOrderBody_active hsetup ho hstate
  refine ⟨fun habort => ?_, fun habort => ?_⟩
  · rw [State.abortOrder_again habort] at hbody
    exact serveLane_accepted hport htakes hbody
  have hexec : exec (.abortOrder p tag (be1 k.val)) s = .next
      ((((s.abortedLane l k o).completionCheck l).arbitrate).answered ⟨p, 0x12, tag, be1 k.val⟩ .ok []) := by
    rw [State.abortOrder_first ho habort] at hbody
    exact serveLane_accepted hport htakes hbody
  obtain ⟨hheads, hchannels, hrings, hrecipes, hfaults, hcabinet, hports⟩ :=
    State.aborting_blocks (s := s) (l := l) (k := k) (o := o)
  have harbiter := State.arbiter_aborting (s := s) (l := l) (k := k) (o := o)
  have horder := State.order_aborting (s := s) (l := l) (k := k) hstate
  obtain ⟨hdeadline, hhalted⟩ := State.om_aborting (s := s) (l := l) (k := k) (o := o)
  have hunit := State.halted_aborting (s := s) (l := l) (k := k) (o := o)
  have hstay := State.stay_aborting (s := s) (l := l) (k := k) (o := o)
  have hchan : (s.aborting l k o).chan = s.chan := funext (State.chan_congr hchannels)
  have hring := State.ring_congr hrings
  have hrecipe : (s.aborting l k o).recipe = s.recipe := funext fun i => by rw [State.recipe, hrecipes, State.recipe]
  have hnow : (s.aborting l k o).now = s.now := by rw [State.now, hcabinet, State.now]
  have ho1 := (horder l k).trans (if_pos ⟨rfl, rfl⟩)
  unfold State.abortedLane at hexec
  generalize s.aborting l k o = t at *
  obtain ⟨fheads, frecipes, ffaults, fcabinet, fports, fbudget, fcandidate, fstays⟩ :=
    t.foldl_abort_blocks l k allChannels
  obtain ⟨fdeadline, fhalted, funit, freader⟩ := t.foldl_abort_lanes l k allChannels
  obtain ⟨o', ho', hkept, hlength, hjoints⟩ := State.order_foldl_abort nodup_allChannels ho1
  have hchanU : ∀ c, (allChannels.foldl (State.abortChannel l k) t).chan c = (s.chan c).abortedBy l k := fun c => by
    rw [State.chan_foldl_abort, hchan]
  refine ⟨allChannels.foldl (State.abortChannel l k) t, o', hexec, ho', ?_, ?_, ?_, ?_, ?_, fun i j hj => ?_,
    fun c hc => ?_, fun c a ha hl hk => ⟨fun hheating => ?_, fun hother => ?_⟩, fdeadline.trans hdeadline,
    fhalted.trans hhalted, funit.trans hunit, ?_, fun c => ?_, ?_, ?_, ?_, ?_, fun m hm => ?_, fun hdiscard => ?_,
    fun hdiscard => ?_, fun m n hne => ?_, fheads.trans hheads, frecipes.trans hrecipes, ffaults.trans hfaults,
    fcabinet.trans hcabinet, fports.trans hports⟩
  · rw [hkept]
  · rw [hkept]
  · rw [hkept]
  · rw [hkept]
  · rw [hlength]
    exact List.length_map _
  · have hj1 : (o.joints.map (settledJoint .notRun))[i]? = some (settledJoint .notRun j) := by
      rw [List.getElem?_map, hj, Option.map_some]
    obtain ⟨hcuts, hleaves⟩ := hjoints i _ hj1
    have hiff := (cutsJoint_congr hchan l k i).trans cutsJoint_allChannels
    exact ⟨fun h => ⟨_, hcuts (hiff.mpr h), rfl, rfl⟩, fun h => hleaves fun h' => h (hiff.mp h')⟩
  · rw [hchanU, ChannelRec.abortedBy, if_neg fun h => hc (ChannelRec.servesOrder_iff.mp h)]
  · rw [hchanU, ChannelRec.abortedBy, if_pos (ChannelRec.servesOrder_iff.mpr ⟨a, ha, hl, hk⟩), if_pos hheating]
    exact ⟨rfl, rfl, rfl⟩
  · rw [hchanU, ChannelRec.abortedBy, if_pos (ChannelRec.servesOrder_iff.mpr ⟨a, ha, hl, hk⟩), if_neg hother, ha]
    rfl
  · rw [State.committed_foldl_abort, harbiter, hchan]
    exact congrArg _ (total_eq_sum s l k _).symm
  · rw [State.stay, fstays]
    exact hstay c
  · rw [fbudget, harbiter]
  · rw [fcandidate, harbiter]
  · rw [State.reserved_foldl_abort, hring, hchan, hrecipe]
    exact congrArg _ (total_eq_sum s l k _).symm
  · rw [freader, hring]
  · rw [State.foldl_abort_ring t l k hm, hring]
  · rw [State.records_foldl_discard ho1 hdiscard, hring]
  · obtain ⟨rs, hrecords, hchannelsR, hsays⟩ := State.records_foldl_abort ho1 hdiscard
    rw [hring] at hrecords
    rw [hchan] at hchannelsR hsays
    refine ⟨rs, hrecords, hchannelsR, fun r hr => ?_⟩
    obtain ⟨a, ha, hl, hk, hend, hentries⟩ := hsays r hr
    rw [hnow, hrecipe] at hend hentries
    refine ⟨hend.lane.trans hl, hend.slot.trans hk, hend.tag, hend.result, hend.time, fun a' ha' => ?_⟩
    obtain rfl : a = a' := Option.some.inj (ha.symm.trans ha')
    exact ⟨hend.joint, hend.head, hend.recipe, hend.number, hend.proof, hend.places, hentries⟩
  · rw [State.foldl_abort_order t l k hne, horder, if_neg fun h => hne.elim (fun hm => hm h.1) fun hn => hn h.2]

end Sys2Proof.Machine
end

section
/-! PROOF. Interrupted attempts and interrupted completions (R22, R81, R99). -/

namespace Sys2Proof.Machine

/-! ### An attempt interrupted (R22, R99) -/

section
variable {t : State} {c : ChannelId}

theorem State.interruptAttempt_none (ha : (t.chan c).attempt = none) : t.interruptAttempt c = t := by
  have hsegment : t.segmentOf c = none := by
    unfold State.segmentOf
    rw [ha]
  unfold State.interruptAttempt State.closeAttempt
  rw [State.recordSegment_of_none hsegment, ite_self]
  dsimp only
  rw [ha]

theorem State.interruptAttempt_heating (h : (t.chan c).state = .heating) :
    t.interruptAttempt c = t.cutClosed c .interrupted := by
  rw [State.interruptAttempt, if_pos h]
  rfl

theorem State.interruptAttempt_moving (h : (t.chan c).state ≠ .heating) :
    t.interruptAttempt c = t.closeAttempt c .interrupted .idle := by
  rw [State.interruptAttempt, if_neg h]

/-- What an interrupted attempt leaves unchanged, its channel and its ring apart. -/
theorem State.interruptAttempt_blocks (t : State) (c : ChannelId) : (t.interruptAttempt c).oms = t.oms ∧
    (t.interruptAttempt c).heads = t.heads ∧ (t.interruptAttempt c).recipes = t.recipes ∧
    (t.interruptAttempt c).cabinet = t.cabinet ∧
    (t.interruptAttempt c).arbiter = { t.arbiter with committed := (t.interruptAttempt c).arbiter.committed } ∧
    (∀ q, (t.interruptAttempt c).unit q =
      { t.unit q with results := ((t.interruptAttempt c).unit q).results }) ∧
    (∀ m, ((t.interruptAttempt c).ring m).reader = (t.ring m).reader ∧
      (t.ring m).records <+: ((t.interruptAttempt c).ring m).records) := by
  cases ha : (t.chan c).attempt with
  | none =>
    rw [State.interruptAttempt_none ha]
    exact ⟨rfl, rfl, rfl, rfl, rfl, fun _ => rfl, fun _ => ⟨rfl, List.prefix_rfl⟩⟩
  | some a =>
    by_cases hstate : (t.chan c).state = .heating
    · rw [State.interruptAttempt_heating hstate]
      obtain ⟨homs, hheads, hrecipes, harbiter, -, hcabinet, -⟩ := State.cutClosed_blocks .interrupted ha
      have hring := State.ring_congr (t.recordSegment_blocks c .cut).2.2.1
      refine ⟨homs, hheads, hrecipes, hcabinet, by rw [harbiter], State.unit_cutClosed _ ha,
        fun m => ⟨State.reader_cutClosed _ ha m, ?_⟩⟩
      rw [State.ring_cutClosed _ ha, ← hring]
      exact State.records_recordAttempt_prefix _ m
    · rw [State.interruptAttempt_moving hstate]
      obtain ⟨homs, hheads, hrecipes, harbiter, -, hcabinet, -, hrings, hunits⟩ :=
        State.closeAttempt_blocks c .interrupted ha
      have hring := State.ring_congr hrings
      have hunit := State.unit_congr hunits
      refine ⟨homs, hheads, hrecipes, hcabinet, by rw [harbiter], fun q => ?_, fun m => ?_⟩
      · rw [hunit, State.unit_recordAttempt]
      · rw [hring, State.reader_recordAttempt]
        exact ⟨rfl, State.records_recordAttempt_prefix _ m⟩

/-- The record of the interrupted attempt. -/
theorem State.records_interruptAttempt {a : Attempt} {o : Order} (ha : (t.chan c).attempt = some a)
    (ho : t.order a.lane a.slot = some o) (hdiscard : o.discard = false) :
    ∃ r : JointRecord, Record.joint r ∈ ((t.interruptAttempt c).ring a.lane).records ∧
      EndRecord t.now (t.recipe a.recipe) c a o.tag .interrupted r ∧
      ((t.chan c).state = .heating → CutEntries t.now (t.recipe a.recipe) (t.chan c).heat r) ∧
      NoHeating (t.chan c).heat r := by
  by_cases hstate : (t.chan c).state = .heating
  · rw [State.interruptAttempt_heating hstate]
    obtain ⟨r, hr, hend, hentries, hnone⟩ := State.records_cutClosed .interrupted ha ho hdiscard
    exact ⟨r, hr ▸ List.mem_append_right _ List.mem_cons_self, hend, fun _ => hentries, hnone⟩
  · rw [State.interruptAttempt_moving hstate]
    have hrings := (State.closeAttempt_blocks c .interrupted ha).2.2.2.2.2.2.2.1
    refine ⟨t.jointRecord c a o .interrupted, ?_, t.endRecord_jointRecord c a o _, fun h => absurd h hstate,
      t.noHeating_jointRecord c a o _⟩
    rw [State.ring_congr hrings, State.ring_recordAttempt_writes c .interrupted ho hdiscard, if_pos rfl]
    exact List.mem_append_right _ List.mem_cons_self
end

/-! ### A loop that interrupts attempts (R81) -/

/-- What every step of such a loop does: it is an interruption of the channel's attempt and a write of the channel and
of the heads' connections. -/
structure InterruptStep (f : State → ChannelId → State) : Prop where
  chan : ∀ t c d, d ≠ c → (f t c).chan d = t.chan d
  blocks : ∀ t c, (f t c).oms = (t.interruptAttempt c).oms ∧ (f t c).rings = (t.interruptAttempt c).rings ∧
    (f t c).recipes = (t.interruptAttempt c).recipes ∧ (f t c).units = (t.interruptAttempt c).units ∧
    (f t c).arbiter = (t.interruptAttempt c).arbiter ∧ (f t c).cabinet = (t.interruptAttempt c).cabinet

section
variable {f : State → ChannelId → State} (hf : InterruptStep f)
include hf

theorem InterruptStep.foldl_blocks (cs : List ChannelId) (t : State) : (cs.foldl f t).oms = t.oms ∧
    (cs.foldl f t).recipes = t.recipes ∧ (cs.foldl f t).cabinet = t.cabinet ∧
    (cs.foldl f t).arbiter = { t.arbiter with committed := (cs.foldl f t).arbiter.committed } ∧
    (∀ q, (cs.foldl f t).unit q = { t.unit q with results := ((cs.foldl f t).unit q).results }) ∧
    (∀ m, ((cs.foldl f t).ring m).reader = (t.ring m).reader ∧
      (t.ring m).records <+: ((cs.foldl f t).ring m).records) := by
  induction cs generalizing t with
  | nil => exact ⟨rfl, rfl, rfl, rfl, fun _ => rfl, fun _ => ⟨rfl, List.prefix_rfl⟩⟩
  | cons c cs ih =>
    obtain ⟨homs, hrecipes, hcabinet, harbiter, hunit, hring⟩ := ih (f t c)
    obtain ⟨homs1, hrings1, hrecipes1, hunits1, harbiter1, hcabinet1⟩ := hf.blocks t c
    obtain ⟨homs2, -, hrecipes2, hcabinet2, harbiter2, hunit2, hring2⟩ := t.interruptAttempt_blocks c
    rw [List.foldl_cons]
    refine ⟨homs.trans (homs1.trans homs2), hrecipes.trans (hrecipes1.trans hrecipes2),
      hcabinet.trans (hcabinet1.trans hcabinet2), ?_, fun q => ?_, fun m => ?_⟩
    · rw [harbiter, harbiter1, harbiter2]
    · rw [hunit, State.unit_congr hunits1, hunit2]
    · obtain ⟨hreader, hprefix⟩ := hring m
      rw [State.ring_congr hrings1] at hreader hprefix
      exact ⟨hreader.trans (hring2 m).1, (hring2 m).2.trans hprefix⟩

theorem InterruptStep.foldl_chan {cs : List ChannelId} {d : ChannelId} (hd : d ∉ cs) (t : State) :
    (cs.foldl f t).chan d = t.chan d := by
  induction cs generalizing t with
  | nil => rfl
  | cons c cs ih =>
    obtain ⟨hne, hrest⟩ := not_or.mp fun h => hd (List.mem_cons.mpr h)
    exact (ih hrest (f t c)).trans (hf.chan t c d hne)

/-- Every attempt whose order is not discarded leaves its record in the ring of its lane. -/
theorem InterruptStep.foldl_records (t : State) {c : ChannelId} {a : Attempt} {o : Order}
    (ha : (t.chan c).attempt = some a) (ho : t.order a.lane a.slot = some o) (hdiscard : o.discard = false) :
    ∃ r : JointRecord, Record.joint r ∈ ((allChannels.foldl f t).ring a.lane).records ∧
      EndRecord t.now (t.recipe a.recipe) c a o.tag .interrupted r ∧
      ((t.chan c).state = .heating → CutEntries t.now (t.recipe a.recipe) (t.chan c).heat r) ∧
      NoHeating (t.chan c).heat r := by
  obtain ⟨before, after, hsplit⟩ := List.append_of_mem (mem_allChannels c)
  have hnodup : (before ++ c :: after).Nodup := hsplit ▸ nodup_allChannels
  have hfresh : c ∉ before := fun hc => (List.nodup_append.mp hnodup).2.2 c hc c List.mem_cons_self rfl
  have hchan := hf.foldl_chan hfresh t
  obtain ⟨homs, hrecipes, hcabinet, -, -, -⟩ := hf.foldl_blocks before t
  rw [hsplit, List.foldl_append, List.foldl_cons]
  generalize before.foldl f t = u at hchan homs hrecipes hcabinet ⊢
  have hnow : u.now = t.now := by rw [State.now, hcabinet, State.now]
  have hrecipe : u.recipe a.recipe = t.recipe a.recipe := by rw [State.recipe, hrecipes, State.recipe]
  obtain ⟨r, hr, htells⟩ := State.records_interruptAttempt (hchan ▸ ha) ((State.order_congr homs _ _).trans ho) hdiscard
  rw [hnow, hrecipe, hchan] at htells
  have hring : (f u c).ring a.lane = (u.interruptAttempt c).ring a.lane := State.ring_congr (hf.blocks u c).2.1 a.lane
  exact ⟨r, ((hf.foldl_blocks after (f u c)).2.2.2.2.2 a.lane).2.subset (hring ▸ hr), htells⟩
end

/-! ### Stopping and resetting a channel (R81) -/

theorem State.setParked_none_blocks (s : State) (c : ChannelId) : (s.setParked c none).oms = s.oms ∧
    (s.setParked c none).rings = s.rings ∧ (s.setParked c none).recipes = s.recipes ∧
    (s.setParked c none).units = s.units ∧ (s.setParked c none).arbiter = s.arbiter ∧
    (s.setParked c none).cabinet = s.cabinet := by
  have hkept := State.setParked_none_keeps (fun t => (t.oms, t.rings, t.recipes, t.units, t.arbiter, t.cabinet))
    (fun _ _ => rfl) (fun _ _ _ => rfl) s c
  simpa only [Prod.mk.injEq] using hkept

/-- A write of a channel and its unparking keep the other blocks. -/
theorem State.writtenUnparked_blocks (s : State) (c : ChannelId) (x : ChannelRec) :
    ((s.setChan c x).setParked c none).oms = s.oms ∧ ((s.setChan c x).setParked c none).rings = s.rings ∧
      ((s.setChan c x).setParked c none).recipes = s.recipes ∧
      ((s.setChan c x).setParked c none).units = s.units ∧
      ((s.setChan c x).setParked c none).arbiter = s.arbiter ∧
      ((s.setChan c x).setParked c none).cabinet = s.cabinet := (s.setChan c x).setParked_none_blocks c

theorem State.head_writtenUnparked (s : State) (c : ChannelId) (x : ChannelRec) (h : HeadId) :
    ((s.setChan c x).setParked c none).head h = HeadRec.leave c x.parked h (s.head h) := by
  rw [State.head_setParked_none, State.chan_setChan, if_pos rfl]
  rfl

theorem State.parked_interruptAttempt (t : State) (c : ChannelId) :
    ((t.interruptAttempt c).chan c).parked = (t.chan c).parked := by
  have hclear := congrArg ChannelRec.parked (t.interruptAttempt_clear c).1
  exact hclear

theorem State.stopChannel_offline {t : State} {c : ChannelId} (h : (t.chan c).state = .offline) :
    t.stopChannel c = t.interruptAttempt c := if_pos h

theorem State.stopChannel_installed {t : State} {c : ChannelId} (h : (t.chan c).state ≠ .offline) :
    ∃ x : ChannelRec, x.parked = (t.chan c).parked ∧
      t.stopChannel c = ((t.interruptAttempt c).setChan c x).setParked c none :=
  ⟨{ ((t.interruptAttempt c).chan c).clear with state := .stopped, faultHeld := (t.chan c).state == .faulted },
    t.parked_interruptAttempt c, if_neg h⟩

theorem interruptStep_stopChannel : InterruptStep State.stopChannel where
  chan t c d hd := (t.chan_stopChannel c d).trans (if_neg hd)
  blocks t c := by
    by_cases h : (t.chan c).state = .offline
    · rw [State.stopChannel_offline h]
      exact ⟨rfl, rfl, rfl, rfl, rfl, rfl⟩
    · obtain ⟨x, -, heq⟩ := State.stopChannel_installed h
      rw [heq]
      exact State.writtenUnparked_blocks _ c x

theorem State.head_stopChannel (t : State) (c : ChannelId) (h : HeadId) : (t.stopChannel c).head h =
    if ((t.chan c).state != .offline) = true then HeadRec.leave c (t.chan c).parked h (t.head h) else t.head h := by
  have hhead := State.head_congr (t.interruptAttempt_blocks c).2.1 h
  by_cases hoff : (t.chan c).state = .offline
  · rw [State.stopChannel_offline hoff, hhead, if_neg (by simp [hoff])]
  · obtain ⟨x, hparked, heq⟩ := State.stopChannel_installed hoff
    rw [heq, State.head_writtenUnparked, hparked, hhead, if_pos (by simpa using hoff)]

/-- The channels that CABINET_RESET unparks. -/
def ChannelRec.unparksAtReset (r : ChannelRec) : Bool := r.state != .offline && r.state != .faulted

theorem State.resetChannel_stays {t : State} {c : ChannelId} (h : (t.chan c).unparksAtReset = false) :
    t.resetChannel c = t.interruptAttempt c := by
  unfold State.resetChannel
  unfold ChannelRec.unparksAtReset at h
  cases hstate : (t.chan c).state with
  | offline | faulted => rfl
  | stopped | idle | transfer | heating => rw [hstate] at h; cases h

theorem State.resetChannel_unparks {t : State} {c : ChannelId} (h : (t.chan c).unparksAtReset = true) :
    ∃ x : ChannelRec, x.parked = (t.chan c).parked ∧
      t.resetChannel c = ((t.interruptAttempt c).setChan c x).setParked c none := by
  have hparked := t.parked_interruptAttempt c
  unfold State.resetChannel
  unfold ChannelRec.unparksAtReset at h
  cases hstate : (t.chan c).state with
  | offline | faulted => rw [hstate] at h; cases h
  | stopped =>
    exact ⟨{ (t.interruptAttempt c).chan c with
      state := if (t.chan c).faultHeld then .faulted else .idle, faultHeld := false }, hparked, rfl⟩
  | idle | transfer | heating => exact ⟨((t.interruptAttempt c).chan c).clear, hparked, rfl⟩

theorem interruptStep_resetChannel : InterruptStep State.resetChannel where
  chan t c d hd := (t.chan_resetChannel c d).trans (if_neg hd)
  blocks t c := by
    cases h : (t.chan c).unparksAtReset with
    | false =>
      rw [State.resetChannel_stays h]
      exact ⟨rfl, rfl, rfl, rfl, rfl, rfl⟩
    | true =>
      obtain ⟨x, -, heq⟩ := State.resetChannel_unparks h
      rw [heq]
      exact State.writtenUnparked_blocks _ c x

theorem State.head_resetChannel (t : State) (c : ChannelId) (h : HeadId) : (t.resetChannel c).head h =
    if (t.chan c).unparksAtReset = true then HeadRec.leave c (t.chan c).parked h (t.head h) else t.head h := by
  have hhead := State.head_congr (t.interruptAttempt_blocks c).2.1 h
  cases hunparks : (t.chan c).unparksAtReset with
  | false => rw [State.resetChannel_stays hunparks, hhead, if_neg Bool.false_ne_true]
  | true =>
    obtain ⟨x, hparked, heq⟩ := State.resetChannel_unparks hunparks
    rw [heq, State.head_writtenUnparked, hparked, hhead, if_pos rfl]

end Sys2Proof.Machine
end

section
/-! PROOF. The interrupted completion of a lane's active order (R22), and the quench (R81, R139). -/

namespace Sys2Proof.Machine

theorem joint_interrupt_eq (j : Joint) : (j.interrupt.outcome.getD .notRun, j.interrupt.attempts) =
    (j.outcome.getD (if 0 < j.attempts then .interrupted else .notRun), j.attempts) := by
  cases h : j.outcome with
  | some out => simp only [Joint.interrupt, h, Option.getD_some]
  | none =>
    simp only [Joint.interrupt, h, Option.getD_none]
    split <;> rfl

/-- The active order as the interrupted completion settles it. -/
def Order.interrupted (o : Order) : Order := { o with joints := o.joints.map Joint.interrupt }

/-- The Order Manager after the interrupted completion of its active order. -/
def OrderManager.interrupted (m : OrderManager) : Option (SlotId × Order) → OrderManager
  | none => { m with released := 0 }
  | some (k, _) => { m with slots := m.slots.set k none, deadline := none, halted := [], released := 0 }

/-- The unit of the lane's port after the interrupted completion. -/
def EventUnit.interrupted (l : Lane) (u : EventUnit) : Option (SlotId × Order) → EventUnit
  | none => u
  | some (k, o) => { u with
      halted := false, orderDone := some (orderContext l k o), slotFree := some (slotContext l k), pollMark := false }

/-- The INTERRUPTED completion record. -/
def State.interruptedRecord (s : State) (l : Lane) (k : SlotId) (o : Order) : CompletionRecord :=
  s.completionRecord l k o.interrupted .interrupted

section
variable (s : State) (l : Lane)

theorem State.interruptLane_none {s : State} {l : Lane} (h : s.active l = none) :
    s.interruptLane l = s.modOm l fun om => { om with released := 0 } := by
  unfold State.interruptLane
  rw [h]

theorem State.interruptLane_some {s : State} {l : Lane} {k : SlotId} {o : Order} (h : s.active l = some (k, o)) :
    s.interruptLane l =
      (s.finishOrder l k o.interrupted .interrupted).modOm l fun om => { om with released := 0 } := by
  unfold State.interruptLane
  rw [h]
  rfl

theorem State.om_interruptLane (m : Lane) :
    (s.interruptLane l).om m = if m = l then (s.om l).interrupted (s.active l) else s.om m := by
  cases hactive : s.active l with
  | none =>
    rw [State.interruptLane_none hactive, State.modOm_eq, State.om_setOm]
    rfl
  | some p =>
    rw [State.interruptLane_some hactive, State.modOm_eq, State.om_setOm, State.om_finishOrder, State.om_finishOrder,
      if_pos rfl]
    split <;> rfl

theorem State.reader_interruptLane (m : Lane) : ((s.interruptLane l).ring m).reader = (s.ring m).reader ∧
    (s.ring m).records <+: ((s.interruptLane l).ring m).records := by
  cases hactive : s.active l with
  | none =>
    rw [State.interruptLane_none hactive]
    exact ⟨rfl, List.prefix_rfl⟩
  | some p =>
    rw [State.interruptLane_some hactive, State.modOm_eq, (State.reads_setOm _ _ _).2.2.2.1, State.ring_finishOrder]
    split
    · rename_i hm
      rw [hm]
      exact ⟨rfl, List.prefix_append _ _⟩
    · exact ⟨rfl, List.prefix_rfl⟩

theorem State.record_interruptLane {s : State} {l : Lane} {k : SlotId} {o : Order} (h : s.active l = some (k, o)) :
    Record.completion (s.interruptedRecord l k o) ∈ ((s.interruptLane l).ring l).records := by
  rw [State.interruptLane_some h, State.modOm_eq, (State.reads_setOm _ _ _).2.2.2.1, State.ring_finishOrder, if_pos rfl]
  exact List.mem_append_right _ List.mem_cons_self

theorem State.unit_interruptLane (q : Port) : ∃ results, (s.interruptLane l).unit q =
    { if q = lanePort l then (s.unit q).interrupted l (s.active l) else s.unit q with results := results } := by
  refine ⟨((s.interruptLane l).unit q).results, ?_⟩
  cases hactive : s.active l with
  | none =>
    rw [State.interruptLane_none hactive]
    split <;> rfl
  | some p =>
    rw [State.interruptLane_some hactive, State.modOm_eq, (State.reads_setOm _ _ _).2.2.2.2.1, State.unit_finishOrder,
      State.unit_writeRecord]
    split <;> rfl

theorem State.recipes_interruptLane (r : RecipeId) : (s.interruptLane l).recipes.get r = { s.recipes.get r with
    refs := (s.recipes.get r).refs - if (s.active l).any (fun x => x.2.recipes.contains r) then 1 else 0 } := by
  cases hactive : s.active l with
  | none =>
    rw [State.interruptLane_none hactive]
    rfl
  | some p =>
    rw [State.interruptLane_some hactive, State.modOm_eq, State.setOm_recipes, State.recipes_finishOrder]
    have hcontains : ((some p).any fun x => x.2.recipes.contains r) = true ↔ r ∈ p.2.recipes := by simp
    exact congrArg (fun n => { s.recipes.get r with refs := (s.recipes.get r).refs - n })
      (if_congr hcontains.symm rfl rfl)

theorem State.interruptLane_blocks : (s.interruptLane l).heads = s.heads ∧
    (s.interruptLane l).channels = s.channels ∧ (s.interruptLane l).arbiter = s.arbiter ∧
    (s.interruptLane l).cabinet = s.cabinet := by
  cases hactive : s.active l with
  | none =>
    rw [State.interruptLane_none hactive]
    exact ⟨rfl, rfl, rfl, rfl⟩
  | some p =>
    obtain ⟨hheads, hchannels, harbiter, -, hcabinet, -⟩ :=
      s.finishOrder_blocks l p.1 p.2.interrupted .interrupted
    rw [State.interruptLane_some hactive]
    exact ⟨hheads, hchannels, harbiter, hcabinet⟩
end

/-! ### Both lanes (R81, R148) -/

/-- Both lanes' active orders completed. -/
def State.lanesInterrupted (s : State) : State := (s.interruptLane .a).interruptLane .b

section
variable (s : State)

theorem State.om_lanesInterrupted (l : Lane) :
    s.lanesInterrupted.om l = (s.om l).interrupted (s.active l) := by
  have hactive : (s.interruptLane .a).active .b = s.active .b :=
    State.active_congr fun n => by rw [State.order, State.om_interruptLane, if_neg (by decide), State.order]
  rw [State.lanesInterrupted, State.om_interruptLane, hactive, State.om_interruptLane, State.om_interruptLane]
  cases l <;> rfl

theorem State.reader_lanesInterrupted (m : Lane) : (s.lanesInterrupted.ring m).reader = (s.ring m).reader ∧
    (s.ring m).records <+: (s.lanesInterrupted.ring m).records := by
  obtain ⟨hreader, hprefix⟩ := s.reader_interruptLane .a m
  obtain ⟨hreader', hprefix'⟩ := (s.interruptLane .a).reader_interruptLane .b m
  exact ⟨hreader'.trans hreader, hprefix.trans hprefix'⟩

theorem State.active_interruptLane_other {l m : Lane} (h : m ≠ l) : (s.interruptLane l).active m = s.active m :=
  State.active_congr fun n => by rw [State.order, State.om_interruptLane, if_neg h, State.order]

theorem State.record_lanesInterrupted {l : Lane} {k : SlotId} {o : Order} (h : s.active l = some (k, o)) :
    Record.completion (s.interruptedRecord l k o) ∈ (s.lanesInterrupted.ring l).records := by
  cases l with
  | a => exact ((s.interruptLane .a).reader_interruptLane .b .a).2.subset (State.record_interruptLane h)
  | b =>
    have hactive := (s.active_interruptLane_other (show Lane.b ≠ .a by decide)).trans h
    have hrecord := State.record_interruptLane hactive
    have hnow : (s.interruptLane .a).now = s.now := by
      rw [State.now, (s.interruptLane_blocks .a).2.2.2, State.now]
    rw [State.interruptedRecord, State.completionRecord, hnow] at hrecord
    exact hrecord

theorem State.unit_lanesInterrupted (l : Lane) : ∃ results, s.lanesInterrupted.unit (lanePort l) =
    { (s.unit (lanePort l)).interrupted l (s.active l) with results := results } := by
  obtain ⟨ra, ha⟩ := s.unit_interruptLane .a (lanePort l)
  obtain ⟨rb, hb⟩ := (s.interruptLane .a).unit_interruptLane .b (lanePort l)
  rw [s.active_interruptLane_other (show Lane.b ≠ .a by decide), ha] at hb
  refine ⟨rb, hb.trans ?_⟩
  cases l with
  | a => rfl
  | b => cases s.active .b <;> rfl

theorem State.recipes_lanesInterrupted (r : RecipeId) : s.lanesInterrupted.recipes.get r = { s.recipes.get r with
    refs := (s.recipes.get r).refs - (if (s.active .a).any (fun x => x.2.recipes.contains r) then 1 else 0) -
      (if (s.active .b).any (fun x => x.2.recipes.contains r) then 1 else 0) } := by
  rw [State.lanesInterrupted, State.recipes_interruptLane, State.recipes_interruptLane,
    s.active_interruptLane_other (show Lane.b ≠ .a by decide)]

theorem State.lanesInterrupted_blocks : s.lanesInterrupted.heads = s.heads ∧
    s.lanesInterrupted.channels = s.channels ∧ s.lanesInterrupted.arbiter = s.arbiter ∧
    s.lanesInterrupted.cabinet = s.cabinet := by
  obtain ⟨h1, h2, h3, h4⟩ := s.interruptLane_blocks .a
  obtain ⟨k1, k2, k3, k4⟩ := (s.interruptLane .a).interruptLane_blocks .b
  exact ⟨k1.trans h1, k2.trans h2, k3.trans h3, k4.trans h4⟩

variable {s}

theorem State.order_lanesInterrupted_active {l : Lane} {k : SlotId} {o : Order} (h : s.active l = some (k, o)) :
    s.lanesInterrupted.order l k = none := by
  rw [State.order, State.om_lanesInterrupted, h]
  simp only [OrderManager.interrupted, Vector.get_set_fin, if_true]

theorem State.order_lanesInterrupted_posted {l : Lane} {k : SlotId} {o : Order} (ho : s.order l k = some o)
    (hposted : o.state = .posted) : s.lanesInterrupted.order l k = some o := by
  rw [State.order, State.om_lanesInterrupted]
  cases hactive : s.active l with
  | none => exact ho
  | some p =>
    obtain ⟨ho', hstate⟩ := State.order_of_active hactive
    have hne : k ≠ p.1 := fun e => by
      subst e
      exact hstate (Option.some.inj (ho.symm.trans ho') ▸ hposted)
    simp only [OrderManager.interrupted, Vector.get_set_fin, if_neg hne]
    exact ho
end

/-! ### The stop of all work (R81, R139) -/

section
variable {f : State → ChannelId → State} (hf : InterruptStep f) (s : State)
include hf

/-- What a loop that interrupts attempts and the emptying of the arbiter leave for the completion of the orders. -/
theorem InterruptStep.emptied_blocks : ((allChannels.foldl f s).modArbiter Arbiter.empty).oms = s.oms ∧
    ((allChannels.foldl f s).modArbiter Arbiter.empty).recipes = s.recipes ∧
    ((allChannels.foldl f s).modArbiter Arbiter.empty).cabinet = s.cabinet ∧
    ((allChannels.foldl f s).modArbiter Arbiter.empty).arbiter = s.arbiter.empty ∧
    (∀ q, ∃ results, ((allChannels.foldl f s).modArbiter Arbiter.empty).unit q =
      { s.unit q with results := results }) ∧
    (∀ m, (((allChannels.foldl f s).modArbiter Arbiter.empty).ring m).reader = (s.ring m).reader ∧
      (s.ring m).records <+: (((allChannels.foldl f s).modArbiter Arbiter.empty).ring m).records) := by
  obtain ⟨homs, hrecipes, hcabinet, harbiter, hunit, hring⟩ := hf.foldl_blocks allChannels s
  generalize allChannels.foldl f s = u at homs hrecipes hcabinet harbiter hunit hring ⊢
  refine ⟨homs, hrecipes, hcabinet, ?_, fun q => ⟨_, hunit q⟩, hring⟩
  rw [State.modArbiter_eq, State.setArbiter_arbiter, harbiter]
  rfl

/-- The state of such a loop with the arbiter emptied and both lanes' orders completed. -/
theorem InterruptStep.lanes {w : State} (hw : w = ((allChannels.foldl f s).modArbiter Arbiter.empty).lanesInterrupted) :
    (∀ l, w.om l = (s.om l).interrupted (s.active l)) ∧
    (∀ l k o, s.active l = some (k, o) → w.order l k = none ∧ ∃ r : CompletionRecord,
      Record.completion r ∈ (w.ring l).records ∧ r = s.interruptedRecord l k o) ∧
    (∀ l k o, s.order l k = some o → o.state = .posted → w.order l k = some o) ∧
    (∀ l, ∃ results, w.unit (lanePort l) =
      { (s.unit (lanePort l)).interrupted l (s.active l) with results := results }) ∧
    (∀ r, w.recipes.get r = { s.recipes.get r with
      refs := (s.recipes.get r).refs - (if (s.active .a).any (fun x => x.2.recipes.contains r) then 1 else 0) -
        (if (s.active .b).any (fun x => x.2.recipes.contains r) then 1 else 0) }) ∧
    (∀ m, (w.ring m).reader = (s.ring m).reader ∧ (s.ring m).records <+: (w.ring m).records) ∧
    w.arbiter = s.arbiter.empty ∧ w.cabinet = s.cabinet ∧
    (∀ h, w.head h = (allChannels.foldl f s).head h) ∧ (∀ c, w.chan c = (allChannels.foldl f s).chan c) ∧
    (∀ c a o, (s.chan c).attempt = some a → s.order a.lane a.slot = some o → o.discard = false →
      ∃ r : JointRecord, Record.joint r ∈ (w.ring a.lane).records ∧
        EndRecord s.now (s.recipe a.recipe) c a o.tag .interrupted r ∧
        ((s.chan c).state = .heating → CutEntries s.now (s.recipe a.recipe) (s.chan c).heat r) ∧
        NoHeating (s.chan c).heat r) := by
  subst hw
  obtain ⟨homs, hrecipes, hcabinet, harbiter, hunit, hring⟩ := hf.emptied_blocks s
  have hrecords := fun c a o => hf.foldl_records s (c := c) (a := a) (o := o)
  have hhead : ∀ h, ((allChannels.foldl f s).modArbiter Arbiter.empty).head h = (allChannels.foldl f s).head h :=
    fun _ => rfl
  have hchan : ∀ c, ((allChannels.foldl f s).modArbiter Arbiter.empty).chan c = (allChannels.foldl f s).chan c :=
    fun _ => rfl
  have hsame : ∀ m, ((allChannels.foldl f s).modArbiter Arbiter.empty).ring m = (allChannels.foldl f s).ring m :=
    fun _ => rfl
  simp only [← hsame] at hrecords
  generalize allChannels.foldl f s = v at *
  generalize v.modArbiter Arbiter.empty = u at *
  obtain ⟨hheads, hchannels, harbiterL, hcabinetL⟩ := u.lanesInterrupted_blocks
  have horder := State.order_congr homs
  have hactive : ∀ l, u.active l = s.active l := fun l => State.active_congr (horder l)
  have hnow : u.now = s.now := by rw [State.now, hcabinet, State.now]
  refine ⟨fun l => ?_, fun l k o h => ⟨State.order_lanesInterrupted_active ((hactive l).trans h), _,
      u.record_lanesInterrupted ((hactive l).trans h), ?_⟩, fun l k o ho hposted =>
      State.order_lanesInterrupted_posted ((horder l k).trans ho) hposted, fun l => ?_, fun r => ?_, fun m => ?_,
    harbiterL.trans harbiter, hcabinetL.trans hcabinet, fun h => (State.head_congr hheads h).trans (hhead h),
    fun c => (State.chan_congr hchannels c).trans (hchan c), fun c a o ha ho hdiscard => ?_⟩
  · rw [State.om_lanesInterrupted, hactive, State.om_congr homs]
  · rw [State.interruptedRecord, State.completionRecord, hnow]
    rfl
  · obtain ⟨results, hr⟩ := u.unit_lanesInterrupted l
    obtain ⟨results', hr'⟩ := hunit (lanePort l)
    rw [hactive, hr'] at hr
    refine ⟨results, hr.trans ?_⟩
    cases s.active l <;> rfl
  · rw [State.recipes_lanesInterrupted, hactive, hactive, hrecipes]
  · exact ⟨(u.reader_lanesInterrupted m).1.trans (hring m).1, (hring m).2.trans (u.reader_lanesInterrupted m).2⟩
  · obtain ⟨r, hr, htells⟩ := hrecords c a o ha ho hdiscard
    exact ⟨r, (u.reader_lanesInterrupted a.lane).2.subset hr, htells⟩
end

/-! ### The quench (R139) -/

/-- The context of QUENCH at a port: the lane's own, or the cause's. -/
def State.quenchContextAt (s : State) (e : FaultEntry) : Port → Context
  | .laneA => s.quenchContext .a
  | .laneB => s.quenchContext .b
  | .supervisor => e.context

theorem State.quench_blocks (s : State) (e : FaultEntry) :
    (s.quench e).oms = (s.fillLogs e true).stopWork.oms ∧ (s.quench e).rings = (s.fillLogs e true).stopWork.rings ∧
      (s.quench e).recipes = (s.fillLogs e true).stopWork.recipes ∧
      (s.quench e).heads = (s.fillLogs e true).stopWork.heads ∧
      (s.quench e).arbiter = (s.fillLogs e true).stopWork.arbiter ∧
      (s.quench e).channels = (s.fillLogs e true).stopWork.channels ∧
      ∀ q, (s.quench e).unit q =
        { (s.fillLogs e true).stopWork.unit q with quench := some (s.quenchContextAt e q) } := by
  unfold State.quench State.post
  generalize (s.fillLogs e true).stopWork = u
  generalize ha : s.quenchContext .a = ca
  generalize hb : s.quenchContext .b = cb
  simp only [State.modUnit_eq, State.setUnit_oms, State.setUnit_rings, State.setUnit_recipes, State.setUnit_heads,
    State.setUnit_arbiter, State.setUnit_channels, State.setFaults_oms, State.setFaults_rings, State.setFaults_recipes,
    State.setFaults_heads, State.setFaults_arbiter, State.setFaults_channels, State.setCabinet_oms,
    State.setCabinet_rings, State.setCabinet_recipes, State.setCabinet_heads, State.setCabinet_arbiter,
    State.setCabinet_channels, true_and, State.unit_setUnit, State.reads_setFaults, State.reads_setCabinet]
  intro q
  cases q with
  | laneA => simp [State.quenchContextAt, ha, EventUnit.post, EventUnit.put]
  | laneB => simp [State.quenchContextAt, hb, EventUnit.post, EventUnit.put]
  | supervisor => simp [State.quenchContextAt, EventUnit.post, EventUnit.put]

theorem State.reads_fillLogs (s : State) (e : FaultEntry) (b : Bool) : (∀ l, (s.fillLogs e b).om l = s.om l) ∧
    (∀ l, (s.fillLogs e b).active l = s.active l) ∧ (∀ l k, (s.fillLogs e b).order l k = s.order l k) ∧
    (∀ q, (s.fillLogs e b).unit q = s.unit q) ∧ (∀ l, (s.fillLogs e b).ring l = s.ring l) ∧
    (∀ h, (s.fillLogs e b).head h = s.head h) ∧ (∀ c, (s.fillLogs e b).chan c = s.chan c) ∧
    (∀ i, (s.fillLogs e b).recipe i = s.recipe i) ∧ (s.fillLogs e b).recipes = s.recipes ∧
    (s.fillLogs e b).arbiter = s.arbiter ∧ (s.fillLogs e b).now = s.now :=
  ⟨fun _ => rfl, fun _ => rfl, fun _ _ => rfl, fun _ => rfl, fun _ => rfl, fun _ => rfl, fun _ => rfl, fun _ => rfl,
    rfl, rfl, rfl⟩

/-- A lane's unit after the quench, results apart. -/
theorem State.unit_quench {s : State} {e : FaultEntry} {l : Lane} {u : EventUnit} {results : LaneTbl Bool}
    (hu : u = { (s.unit (lanePort l)).interrupted l (s.active l) with results := results })
    (ht : (s.quench e).unit (lanePort l) = { u with quench := some (s.quenchContextAt e (lanePort l)) }) :
    (∀ k o, s.active l = some (k, o) →
      ((s.quench e).unit (lanePort l)).slotFree = some { lane := some l, slot := some k, tag := none, head := none } ∧
      ((s.quench e).unit (lanePort l)).pollMark = false ∧ ((s.quench e).unit (lanePort l)).halted = false ∧
      ((s.quench e).unit (lanePort l)).orderDone =
        some { lane := some l, slot := some k, tag := some o.tag, head := none } ∧
      ((s.quench e).unit (lanePort l)).quench =
        some { lane := some l, slot := some k, tag := some o.tag, head := none }) ∧
    (s.active l = none → ((s.quench e).unit (lanePort l)).quench =
      some { lane := some l, slot := none, tag := none, head := none }) := by
  have hcontext : s.quenchContextAt e (lanePort l) = s.quenchContext l := by cases l <;> rfl
  rw [ht, hu, hcontext]
  refine ⟨fun k o hactive => ?_, fun hactive => ?_⟩
  · rw [State.quenchContext, hactive]
    exact ⟨rfl, rfl, rfl, rfl, rfl⟩
  · rw [State.quenchContext, hactive]
    rfl

theorem ChannelRec.stop_installed {r : ChannelRec} (h : r.state ≠ .offline) :
    r.stop.state = .stopped ∧ r.stop.parked = none ∧ r.stop.moveTimer = none ∧ r.stop.heat = none ∧
      (r.stop.faultHeld = true ↔ r.state = .faulted) := by
  rw [ChannelRec.stop, if_neg h]
  exact ⟨rfl, rfl, rfl, rfl, beq_iff_eq⟩

theorem ChannelRec.stop_offline {r : ChannelRec} (h : r.state = .offline) (ha : r.attempt = none) : r.stop = r := by
  rw [ChannelRec.stop, if_pos h, ChannelRec.interrupted, ha]
  rfl

/-- The heads after the channels that `acts` were unparked. -/
theorem connected_cases {s : State} {f : State → ChannelId → State} {acts : ChannelRec → Bool}
    (hhead : ∀ t c h, (f t c).head h =
      if acts (t.chan c) then HeadRec.leave c (t.chan c).parked h (t.head h) else t.head h)
    (hf : InterruptStep f) (h : HeadId) :
    (allChannels.foldl f s).head h = { s.head h with connected := ((allChannels.foldl f s).head h).connected } ∧
    ((∃ c, acts (s.chan c) = true ∧ (s.chan c).parked = some h ∧ (s.head h).connected = some c) →
      ((allChannels.foldl f s).head h).connected = none) ∧
    ((¬ ∃ c, acts (s.chan c) = true ∧ (s.chan c).parked = some h ∧ (s.head h).connected = some c) →
      ((allChannels.foldl f s).head h).connected = (s.head h).connected) := by
  obtain ⟨hleaves, hstays⟩ := head_foldl_leave hhead hf.chan nodup_allChannels s h
  simp only [mem_allChannels, true_and] at hleaves hstays
  generalize allChannels.foldl f s = u at hleaves hstays ⊢
  refine ⟨?_, fun hex => by rw [hleaves hex], fun hnot => by rw [hstays hnot]⟩
  by_cases hex : ∃ c, acts (s.chan c) = true ∧ (s.chan c).parked = some h ∧ (s.head h).connected = some c
  · rw [hleaves hex]
  · rw [hstays hex]

theorem State.laneLog_quench (s : State) (e : FaultEntry) (l : Lane) : (s.quench e).faults.laneLogs.get l =
    fillLog (s.faults.laneLogs.get l) (s.laneFill e true l) := by
  rw [State.quench_faults]
  exact s.laneLog_fillLogs e true l

theorem State.quench_tables (s : State) (e : FaultEntry) : (s.quench e).bindings = s.bindings ∧
    (s.quench e).family = s.family ∧ (s.quench e).defaults = s.defaults := by
  have houter := State.stopWork_outer (s.fillLogs e true)
  have hbindings : (s.fillLogs e true).stopWork.bindings = s.bindings := (State.bindings_of_outer houter).trans rfl
  have hfamily : (s.fillLogs e true).stopWork.family = s.family := (State.family_of_outer houter).trans rfl
  have hdefaults : (s.fillLogs e true).stopWork.defaults = s.defaults := (State.defaults_of_outer houter).trans rfl
  unfold State.quench State.post
  generalize (s.fillLogs e true).stopWork = u at hbindings hfamily hdefaults ⊢
  simp [hbindings, hfamily, hdefaults]

/-- Settles O50: the loop over the channels, the orders' completion, and Fault Control's part. -/
theorem quenchStopsTheCabinet : Obligations.QuenchStopsTheCabinet := by
  intro e s
  obtain ⟨hom, horders, hposted, hunits, hrecipes, hrings, harbiter, -, hheads, -, hrecords⟩ :=
    interruptStep_stopChannel.lanes (s.fillLogs e true) (w := (s.fillLogs e true).stopWork) rfl
  obtain ⟨rom, ractive, rorder, runit, rring, rhead, rchan, rrecipe, rrecipes, rarbiter, rnow⟩ :=
    s.reads_fillLogs e true
  obtain ⟨qoms, qrings, qrecipes, qheads, qarbiter, qchannels, qunits⟩ := s.quench_blocks e
  have hconnected := fun h => connected_cases (acts := fun r => r.state != .offline)
    (s := s.fillLogs e true) State.head_stopChannel interruptStep_stopChannel h
  have hchan : ∀ c, (s.quench e).chan c = (s.chan c).stop := fun c =>
    (State.chan_congr qchannels c).trans ((State.chan_stopWork _ c).trans (congrArg ChannelRec.stop (rchan c)))
  simp only [rom, ractive, rorder, runit, rring] at hom horders hposted hunits hrings
  simp only [rrecipes, ractive, rarbiter] at hrecipes harbiter
  simp only [rchan, rorder, rhead, rrecipe, rnow, bne_iff_ne] at hrecords hconnected
  simp only [← hheads, ← State.head_congr qheads] at hconnected
  have hunit := fun l => State.unit_quench (hunits l).choose_spec (qunits (lanePort l))
  have homs := fun l => (State.om_congr qoms l).trans (hom l)
  have hring := State.ring_congr qrings
  have horder := State.order_congr qoms
  have hcabinet := s.quench_cabinet e
  have hfaults := s.quench_faults e
  dsimp only
  refine ⟨by rw [State.mode, hcabinet]; rfl, by rw [hfaults], by rw [hcabinet]; rfl, by rw [hcabinet]; rfl,
    by rw [hcabinet]; rfl, by rw [hcabinet]; rfl, fun c hc => ?_, fun c => ?_, fun c hc ha => ?_,
    by rw [qarbiter, harbiter]; rfl, by rw [qarbiter, harbiter]; rfl, fun c => ?_, by rw [qarbiter, harbiter]; rfl,
    by rw [qarbiter, harbiter]; rfl, by rw [qarbiter, harbiter]; rfl, by rw [qarbiter, harbiter]; rfl, fun l => ?_,
    fun l k o hactive => ?_, fun c a o ha ho hdiscard => ?_, ?_, fun l hl => ?_, fun l k o hl hactive => ?_,
    fun l hl hactive => ?_, fun l hactive => ⟨fun k => ?_, ?_, ?_, (hunit l).2 hactive⟩,
    fun l k o ho hp => (horder l k).trans (hposted l k o ho hp), ?_, fun h => (hconnected h).1,
    fun h => (hconnected h).2, fun r => ?_, ?_, ?_, ?_, s.quench_ports e, ?_, ?_, ?_⟩
  · rw [hchan]
    exact ChannelRec.stop_installed hc
  · rw [hchan]
    exact ChannelRec.stop_attempt _
  · rw [hchan]
    exact ChannelRec.stop_offline hc ha
  · rw [State.stay, qarbiter, harbiter]
    exact vector_get_replicate none c
  · rw [homs, hring]
    refine ⟨?_, ?_, ?_, ?_, (hrings l).1, (hrings l).2⟩ <;> cases s.active l <;> rfl
  · obtain ⟨hgone, r, hr, hrecord⟩ := horders l k o hactive
    obtain ⟨hslotFree, hpollMark, hhalted, hdone, hquench⟩ := (hunit l).1 k o hactive
    rw [homs, horder, hring, hactive]
    refine ⟨hgone, rfl, rfl, hslotFree, hpollMark, hhalted, hdone, hquench, r, hr, ?_⟩
    rw [hrecord]
    refine ⟨rfl, rfl, rfl, rfl, rfl, rnow, rfl, ?_⟩
    simp only [State.interruptedRecord, State.completionRecord, Order.interrupted, List.map_map, Function.comp_def,
      joint_interrupt_eq]
  · obtain ⟨r, hr, hend, hcut, hnone⟩ := hrecords c a o ha ho hdiscard
    rw [hring]
    exact ⟨r, hr, hend.lane, hend.slot, hend.tag, hend.joint, hend.head, hend.channel, hend.recipe, hend.number,
      hend.result, hend.proof, hend.time, hend.places, fun w g hstate hw hg => hcut hstate w g hw hg, hnone⟩
  · rw [hfaults]
    exact fillLog_some _ e
  · rw [State.laneLog_quench, State.laneFill, if_pos hl]
    exact fillLog_some _ e
  · rw [State.laneLog_quench, State.laneFill, if_neg hl, if_pos rfl, hactive]
    exact fillLog_some _ _
  · rw [State.laneLog_quench, State.laneFill, if_neg hl, if_pos rfl, hactive]
    exact fillLog_none _
  · rw [State.order, homs, hactive]
    rfl
  · rw [homs, hactive]
    rfl
  · rw [homs, hactive]
    rfl
  · rw [qunits]
    rfl
  · rw [qrecipes]
    exact hrecipes r
  · exact (s.quench_tables e).1
  · exact (s.quench_tables e).2.1
  · exact (s.quench_tables e).2.2
  · rw [hfaults]
    rfl
  · rw [hfaults]
    rfl
  · rw [hfaults]
    rfl

end Sys2Proof.Machine
end

section
/-! PROOF. CABINET_RESET (R81, R147, R148). -/

namespace Sys2Proof.Machine

/-- Where no channel has an attempt, a loop that interrupts attempts writes no record. -/
theorem InterruptStep.foldl_quiet {f : State → ChannelId → State} (hf : InterruptStep f) {cs : List ChannelId}
    (hn : cs.Nodup) {s : State} (hs : ∀ c ∈ cs, (s.chan c).attempt = none) :
    (cs.foldl f s).rings = s.rings ∧ (cs.foldl f s).units = s.units := by
  induction cs generalizing s with
  | nil => exact ⟨rfl, rfl⟩
  | cons c cs ih =>
    obtain ⟨hc, hn⟩ := List.nodup_cons.mp hn
    have hnone := hs c List.mem_cons_self
    obtain ⟨-, hrings, -, hunits, -, -⟩ := hf.blocks s c
    rw [State.interruptAttempt_none hnone] at hrings hunits
    obtain ⟨hrings', hunits'⟩ := ih hn (s := f s c) fun d hd => by
      rw [hf.chan s c d fun e => hc (e ▸ hd)]
      exact hs d (List.mem_cons_of_mem _ hd)
    exact ⟨hrings'.trans hrings, hunits'.trans hunits⟩

theorem ChannelRec.reset81_stopped {r : ChannelRec} (h : r.state = .stopped) :
    r.reset81.parked = none ∧ r.reset81.faultHeld = false ∧
      r.reset81.state = if r.faultHeld then .faulted else .idle := by
  unfold ChannelRec.reset81
  rw [h]
  exact ⟨rfl, rfl, rfl⟩

theorem ChannelRec.reset81_working {r : ChannelRec} (h : r.state = .idle ∨ r.state = .transfer ∨ r.state = .heating) :
    r.reset81.state = .idle ∧ r.reset81.parked = none ∧ r.reset81.moveTimer = none := by
  unfold ChannelRec.reset81
  rcases h with h | h | h <;> rw [h] <;> exact ⟨rfl, rfl, rfl⟩

theorem ChannelRec.reset81_kept {r : ChannelRec} (h : r.state = .offline ∨ r.state = .faulted)
    (ha : r.attempt = none) : r.reset81 = r := by
  have hkept : r.interrupted = r := by
    rw [ChannelRec.interrupted, ha]
    rfl
  unfold ChannelRec.reset81
  rcases h with h | h <;> rw [h] <;> exact hkept

theorem ChannelRec.unparksAtReset_iff {r : ChannelRec} :
    r.unparksAtReset = true ↔ r.state ≠ .offline ∧ r.state ≠ .faulted := by
  simp [ChannelRec.unparksAtReset]

/-! ### The state of an accepted CABINET_RESET before the standing alarms -/

/-- The reset by mode, without the standing alarms. -/
def State.cabinetWasReset (s : State) : State := if s.mode = .quenched then s.resetQuenched else s.resetWorking

theorem exec_cabinetReset {tag : Byte} {s : State} (htakes : s.takes ⟨.supervisor, 0x63, tag, []⟩)
    (hsetup : s.mode ≠ .unconfigured) : exec (.cabinetReset .supervisor tag []) s =
      .next (s.cabinetWasReset.standingAlarms.answered ⟨.supervisor, 0x63, tag, []⟩ .ok []) := by
  refine serveSupervisor_accepted (body := cabinetResetBody) rfl htakes ?_
  rw [cabinetResetBody, needSetup_of_ne_unconfigured hsetup]
  rfl

theorem State.standingAlarms_clear {u : State} (hflow : u.faults.coolantFlow = false)
    (hbus : u.faults.busCurrent = false) (hground : u.faults.groundMonitor = false) : u.standingAlarms = u := by
  have hclear : ∀ i, u.faults.alarm i = false → u.standing i = u := fun i hi =>
    if_neg (hi ▸ Bool.false_ne_true)
  rw [State.standingAlarms, hclear .coolantFlow hflow, hclear .busCurrent hbus, hclear .groundMonitor hground]

theorem State.resetChannels_eq (s : State) :
    (allChannels.foldl State.resetChannel s).modArbiter Arbiter.empty = s.resetChannels := by rw [State.resetChannels]

section
variable (s : State)

/-- Both resets leave the channels, the heads and the arbiter of the loop over the channels. -/
theorem State.cabinetWasReset_blocks :
    (∀ c, s.cabinetWasReset.chan c = (s.chan c).reset81) ∧
      s.cabinetWasReset.arbiter = s.arbiter.empty ∧
      (∀ h, s.cabinetWasReset.head h = (allChannels.foldl State.resetChannel s).head h) ∧
      s.cabinetWasReset.cabinet = s.cabinet.settle ∧ s.cabinetWasReset.ports = s.ports := by
  have hchan := s.chan_resetChannels
  have harbiter := (interruptStep_resetChannel.emptied_blocks s).2.2.2.1
  have hhead : ∀ h, s.resetChannels.head h = (allChannels.foldl State.resetChannel s).head h := by
    unfold State.resetChannels
    generalize allChannels.foldl State.resetChannel s = v
    exact fun _ => rfl
  unfold State.cabinetWasReset
  split
  · refine ⟨?_, ?_, ?_, s.resetQuenched_cabinet, s.resetQuenched_ports⟩
    all_goals
      unfold State.resetQuenched
      rw [State.resetChannels_eq] at harbiter
      generalize s.resetChannels = u at hchan harbiter hhead ⊢
    · exact hchan
    · exact harbiter
    · exact hhead
  · have hlanes := s.resetChannels.lanesInterrupted_blocks
    obtain ⟨hheads, hchannels, harbiterL, -⟩ := hlanes
    have hreset : s.resetWorking.heads = s.resetChannels.lanesInterrupted.heads ∧
        s.resetWorking.channels = s.resetChannels.lanesInterrupted.channels ∧
        s.resetWorking.arbiter = s.resetChannels.lanesInterrupted.arbiter := by
      unfold State.resetWorking State.lanesInterrupted
      generalize (s.resetChannels.interruptLane .a).interruptLane .b = w
      exact ⟨rfl, rfl, rfl⟩
    obtain ⟨hheadsW, hchannelsW, harbiterW⟩ := hreset
    refine ⟨fun c => ?_, harbiterW.trans (harbiterL.trans harbiter), fun h => ?_, s.resetWorking_cabinet,
      s.resetWorking_ports⟩
    · rw [State.chan_congr hchannelsW, State.chan_congr hchannels, hchan]
    · rw [State.head_congr hheadsW, State.head_congr hheads, hhead]

theorem Severity.lower_eq (v : Severity) : v.lower = if v = .quench then .contained else v := by cases v <;> rfl

/-- Taken in QUENCHED. -/
theorem State.resetQuenched_kept : (∀ q, ∃ results, s.resetQuenched.unit q =
      { s.unit q with quench := none, results := results }) ∧
    ((∀ c, (s.chan c).attempt = none) → (∀ q, s.resetQuenched.unit q = { s.unit q with quench := none }) ∧
      s.resetQuenched.oms = s.oms ∧ s.resetQuenched.rings = s.rings ∧ s.resetQuenched.recipes = s.recipes) := by
  obtain ⟨homs, hrecipes, -, -, hunit, -⟩ := interruptStep_resetChannel.emptied_blocks s
  have hquiet := fun h : ∀ c, (s.chan c).attempt = none =>
    interruptStep_resetChannel.foldl_quiet nodup_allChannels (s := s) fun c _ => h c
  have hcleared : ∀ q, s.resetQuenched.unit q = { s.resetChannels.unit q with quench := none } := fun q => by
    unfold State.resetQuenched
    generalize s.resetChannels = u
    cases q <;> rfl
  have hkept : s.resetQuenched.oms = s.resetChannels.oms ∧ s.resetQuenched.rings = s.resetChannels.rings ∧
      s.resetQuenched.recipes = s.resetChannels.recipes := by
    unfold State.resetQuenched
    generalize s.resetChannels = u
    exact ⟨rfl, rfl, rfl⟩
  have hloop : s.resetChannels.rings = (allChannels.foldl State.resetChannel s).rings ∧
      s.resetChannels.units = (allChannels.foldl State.resetChannel s).units := by
    unfold State.resetChannels
    generalize allChannels.foldl State.resetChannel s = v
    exact ⟨rfl, rfl⟩
  rw [State.resetChannels_eq] at homs hrecipes
  simp only [State.resetChannels_eq] at hunit
  refine ⟨fun q => ?_, fun hnone => ⟨fun q => ?_, hkept.1.trans homs, ?_, hkept.2.2.trans hrecipes⟩⟩
  · obtain ⟨results, hr⟩ := hunit q
    exact ⟨results, (hcleared q).trans (by rw [hr])⟩
  · rw [hcleared, State.unit_congr (hloop.2.trans (hquiet hnone).2)]
  · exact hkept.2.1.trans (hloop.1.trans (hquiet hnone).1)
end

/-- Settles O52: the loop over the channels in either mode, and the completion of the orders outside QUENCHED. -/
theorem cabinetResetReturnsToSettling : Obligations.CabinetResetReturnsToSettling := by
  intro tag s htakes hsetup
  obtain ⟨hchan, harbiter, hheads, hcabinet, hports⟩ := s.cabinetWasReset_blocks
  have hconnected := fun h => connected_cases (s := s) State.head_resetChannel interruptStep_resetChannel h
  simp only [← hheads, ChannelRec.unparksAtReset_iff, and_assoc] at hconnected
  refine ⟨s.cabinetWasReset, exec_cabinetReset htakes hsetup, State.standingAlarms_clear, hcabinet, harbiter,
    fun c => ?_, fun c hc => ?_, fun c hc => ?_, fun c hc ha => ?_, fun hquenched => ?_, fun hworking => ?_,
    fun h => (hconnected h).1, fun h => (hconnected h).2, hports⟩
  · rw [hchan]
    exact ChannelRec.reset81_attempt _
  · rw [hchan]
    exact ChannelRec.reset81_stopped hc
  · rw [hchan]
    exact ChannelRec.reset81_working hc
  · rw [hchan]
    exact ChannelRec.reset81_kept hc ha
  · have hreset : s.cabinetWasReset = s.resetQuenched := if_pos hquenched
    obtain ⟨hunit, hkept⟩ := s.resetQuenched_kept
    rw [hreset]
    refine ⟨?_, fun q => ?_, hkept⟩
    · rw [State.resetQuenched_faults, Severity.lower_eq]
    · obtain ⟨results, hr⟩ := hunit q
      rw [hr]
  · have hreset : s.cabinetWasReset = s.resetWorking := if_neg hworking
    obtain ⟨hom, horders, hposted, hunits, hrecipes, hrings, -, -, -, -, hrecords⟩ :=
      interruptStep_resetChannel.lanes s rfl
    have hsettled : s.resetWorking.oms = s.resetChannels.lanesInterrupted.oms ∧
        s.resetWorking.rings = s.resetChannels.lanesInterrupted.rings ∧
        s.resetWorking.recipes = s.resetChannels.lanesInterrupted.recipes ∧
        s.resetWorking.units = s.resetChannels.lanesInterrupted.units := by
      unfold State.resetWorking State.lanesInterrupted
      generalize (s.resetChannels.interruptLane .a).interruptLane .b = w
      exact ⟨rfl, rfl, rfl, rfl⟩
    rw [hreset]
    simp only [State.resetChannels_eq] at hom horders hposted hunits hrecipes hrings hrecords
    generalize s.resetChannels.lanesInterrupted = w at *
    obtain ⟨homs, hringsW, hrecipesW, hunitsW⟩ := hsettled
    have homW := fun l => (State.om_congr homs l).trans (hom l)
    have horder := State.order_congr homs
    have hring := State.ring_congr hringsW
    have hunit := State.unit_congr hunitsW
    refine ⟨s.resetWorking_faults, fun l => ?_, fun r => ?_, fun c a o ha ho hdiscard => ?_, fun l => ?_,
      fun l k o ho hp => (horder l k).trans (hposted l k o ho hp), fun l k o hactive => ?_⟩
    · rw [homW]
      cases s.active l <;> rfl
    · rw [hrecipesW]
      exact hrecipes r
    · obtain ⟨r, hr, hend, -, -⟩ := hrecords c a o ha ho hdiscard
      rw [hring]
      exact ⟨r, hr, hend.lane, hend.slot, hend.tag, hend.joint, hend.head, hend.channel, hend.recipe, hend.number,
        hend.result, hend.proof, hend.time⟩
    · rw [hring]
      exact ⟨(hrings l).2, (hrings l).1⟩
    · obtain ⟨hgone, r, hr, rfl⟩ := horders l k o hactive
      obtain ⟨results, hu⟩ := hunits l
      rw [homW, horder, hring, hunit, hu, hactive]
      refine ⟨hgone, rfl, rfl, rfl, rfl, _, hr, rfl, rfl, rfl, rfl, rfl, rfl, rfl, ?_⟩
      simp only [State.interruptedRecord, State.completionRecord, Order.interrupted, List.map_map, Function.comp_def,
        joint_interrupt_eq]

end Sys2Proof.Machine
end

section
/-! PROOF. What the Order Manager of a lane does to the heads and the ports when it completes and activates; the health
flags (R51 to R53). -/

namespace Sys2Proof.Machine

/-! ### The reach of one lane's Order Manager -/

/-- What stays of the heads, the units and the arbiter when the Order Manager of the lane `l` takes the state from `s`
to `t`: health flags, HEAD_FAULT and the other lane's port, the stays; a candidate is kept or dropped. -/
structure LaneStep (l : Lane) (s t : State) : Prop where
  health : ∀ h, (t.head h).health = (s.head h).health
  headFault : ∀ q, (t.unit q).headFault = (s.unit q).headFault
  otherPort : ∀ m, m ≠ l → t.unit (lanePort m) = s.unit (lanePort m)
  stays : t.arbiter.stays = s.arbiter.stays
  candidate : t.arbiter.candidate = s.arbiter.candidate ∨ t.arbiter.candidate = none

theorem lanePort_ne {l m : Lane} (h : m ≠ l) : lanePort m ≠ lanePort l := by
  cases l <;> cases m <;> first
    | exact absurd rfl h
    | decide

namespace LaneStep

variable {l : Lane} {s t u : State}

theorem refl (l : Lane) (s : State) : LaneStep l s s :=
  ⟨fun _ => rfl, fun _ => rfl, fun _ _ => rfl, rfl, Or.inl rfl⟩

theorem trans (h : LaneStep l s t) (h' : LaneStep l t u) : LaneStep l s u where
  health i := (h'.health i).trans (h.health i)
  headFault q := (h'.headFault q).trans (h.headFault q)
  otherPort m hm := (h'.otherPort m hm).trans (h.otherPort m hm)
  stays := h'.stays.trans h.stays
  candidate := by
    rcases h'.candidate with hc | hc
    · rcases h.candidate with hd | hd
      · exact Or.inl (hc.trans hd)
      · exact Or.inr (hc.trans hd)
    · exact Or.inr hc

/-- A step that writes no head, no unit and not the arbiter. -/
theorem of_blocks (hheads : t.heads = s.heads) (hunits : t.units = s.units) (harbiter : t.arbiter = s.arbiter) :
    LaneStep l s t where
  health i := by rw [State.head_congr hheads]
  headFault q := by rw [State.unit_congr hunits]
  otherPort m _ := State.unit_congr hunits _
  stays := by rw [harbiter]
  candidate := Or.inl (by rw [harbiter])

theorem setUnit {x : EventUnit} (hx : x.headFault = (s.unit (lanePort l)).headFault) :
    LaneStep l s (s.setUnit (lanePort l) x) where
  health _ := rfl
  headFault q := by
    rw [State.unit_setUnit]
    split
    · rename_i hq
      rw [hx, hq]
    · rfl
  otherPort m hm := by rw [State.unit_setUnit, if_neg (lanePort_ne hm)]
  stays := rfl
  candidate := Or.inl rfl

theorem setSlot (m : Lane) (k : SlotId) (o : Option Order) : LaneStep l s (s.setSlot m k o) := of_blocks rfl rfl rfl

theorem frontArrival (h : HeadId) : LaneStep l s (s.frontArrival l h) where
  health i := by
    obtain ⟨b, hb⟩ := s.head_frontArrival l h
    rw [hb]
    split
    · rename_i hi
      rw [hi]
      rfl
    · rfl
  headFault q := by rw [State.unit_congr (s.frontArrival_blocks l h).2.2.2.1]
  otherPort m _ := State.unit_congr (s.frontArrival_blocks l h).2.2.2.1 _
  stays := by rw [(s.frontArrival_blocks l h).2.2.2.2.1]
  candidate := Or.inl (by rw [(s.frontArrival_blocks l h).2.2.2.2.1])

theorem arrivals (hs : List HeadId) : LaneStep l s (s.arrivals l hs) := by
  induction hs using List.reverseRecOn with
  | nil => exact refl l s
  | append_singleton hs h ih =>
    rw [State.arrivals_concat]
    exact ih.trans (frontArrival h)

theorem nearDoneTest : LaneStep l s (s.nearDoneTest l) := by
  cases hactive : s.active l with
  | none =>
    have hsame : s.nearDoneTest l = s := by
      unfold State.nearDoneTest
      rw [hactive]
    rw [hsame]
    exact refl l s
  | some p =>
    obtain ⟨b, c, heq, -, -⟩ := State.nearDoneTest_eq hactive
    rw [heq]
    exact (setSlot l p.1 _).trans (setUnit rfl)

theorem finishOrder (k : SlotId) (o : Order) (kind : CompletionKind) : LaneStep l s (s.finishOrder l k o kind) where
  health i := by rw [State.head_congr (s.finishOrder_blocks l k o kind).1]
  headFault q := by
    rw [State.unit_finishOrder, State.unit_writeRecord]
    split <;> rfl
  otherPort m hm := by
    rw [State.unit_finishOrder, if_neg (lanePort_ne hm), State.unit_writeRecord,
      if_neg (readerPort_ne_lane (Ne.symm hm) _).symm]
  stays := by rw [(s.finishOrder_blocks l k o kind).2.2.1]
  candidate := Or.inl (by rw [(s.finishOrder_blocks l k o kind).2.2.1])

theorem activate (k : SlotId) (o : Order) : LaneStep l s (s.activate l k o) := by
  obtain ⟨hheads, -, -, hunits, harbiter, -, -, -⟩ := s.started_blocks l k o
  rw [State.activate_eq]
  exact ((of_blocks hheads hunits harbiter).trans (arrivals allHeads)).trans nearDoneTest

theorem activationRounds (n : Nat) (s : State) : LaneStep l s (activationRounds n l s) := by
  induction n generalizing s with
  | zero => exact refl l s
  | succ n ih =>
    unfold Machine.activationRounds
    split
    · exact refl l s
    · dsimp only
      split
      · exact activate _ _
      · split
        · exact ((activate _ _).trans (finishOrder _ _ _)).trans (ih _)
        · exact activate _ _

theorem dropCandidate : LaneStep l s s.dropCandidate where
  health i := by unfold State.dropCandidate; (repeat' split) <;> rfl
  headFault q := by unfold State.dropCandidate; (repeat' split) <;> rfl
  otherPort m _ := by unfold State.dropCandidate; (repeat' split) <;> rfl
  stays := by unfold State.dropCandidate; (repeat' split) <;> rfl
  candidate := by
    unfold State.dropCandidate
    split
    · split
      · exact Or.inl rfl
      · exact Or.inr rfl
    · exact Or.inl rfl

theorem completionCheck : LaneStep l s (s.completionCheck l) := by
  cases hactive : s.active l with
  | none =>
    rw [completionCheck_idle hactive]
    exact refl l s
  | some p =>
    cases hdone : p.2.allDone with
    | false =>
      rw [completionCheck_of_open hactive hdone]
      exact refl l s
    | true =>
      rw [completionCheck_done hactive hdone]
      exact ((finishOrder _ _ _).trans dropCandidate).trans (activationRounds 4 _)

end LaneStep

/-! ### The skip of a head's joints (R52) -/

/-- The halted-joint list without the head's joints. -/
def State.listWithout (s : State) (l : Lane) (o : Order) (h : HeadId) : List Nat :=
  (s.om l).halted.filter fun i => (o.joints[i]?).all fun j => j.head != h

/-- The order with the head's open joints skipped. -/
def Order.without (o : Order) (h : HeadId) : Order :=
  { o with joints := o.joints.map fun j =>
      if j.head = h ∧ j.outcome = none then { j with state := .done, outcome := some .skippedHead } else j }

/-- The state of the skip before the near-done test. -/
def State.headSkipped (s : State) (l : Lane) (k : SlotId) (o : Order) (h : HeadId) : State :=
  if o.state = .halted then s.resumed l k (s.listWithout l o h) (o.without h)
  else (s.setOm l ((s.om l).withHalted (s.listWithout l o h))).setSlot l k (some (o.without h))

theorem Order.headInAttempt_iff {o : Order} {h : HeadId} : o.headInAttempt h = true ↔
    ∃ j ∈ o.joints, j.head = h ∧ (j.state = .transfer ∨ j.state = .heating) := by
  simp [Order.headInAttempt, Joint.inAttempt]

section
variable {s : State} {l : Lane} {k : SlotId} {o : Order}

theorem State.skipHead_idle (h : HeadId) (hactive : s.active l = none) : s.skipHead l h = s := by
  unfold State.skipHead
  rw [hactive]

theorem State.skipHead_waits {h : HeadId} (hactive : s.active l = some (k, o))
    (hwaits : o.front h = none ∨ ∃ j ∈ o.joints, j.head = h ∧ (j.state = .transfer ∨ j.state = .heating)) :
    s.skipHead l h = s := by
  unfold State.skipHead
  rw [hactive]
  refine if_neg fun hskips => ?_
  rw [Bool.and_eq_true, Bool.not_eq_true'] at hskips
  rcases hwaits with hnone | hin
  · rw [hnone] at hskips
    exact absurd hskips.1 (by decide)
  · rw [Order.headInAttempt_iff.mpr hin] at hskips
    exact absurd hskips.2 (by decide)

theorem State.leaveHalted_other {o' : Order} (ho : s.order l k = some o') (hstate : o'.state ≠ .halted) :
    s.leaveHalted l k = s := by
  unfold State.leaveHalted
  rw [ho]
  dsimp only
  rw [if_neg hstate, ite_self]

/-- The slot and the list are written in either order. -/
theorem State.setSlot_modOm (s : State) (l : Lane) (k : SlotId) (o : Option Order) (f : List Nat → List Nat) :
    ((s.setSlot l k o).modOm l fun om => { om with halted := f om.halted }) =
      (s.setOm l ((s.om l).withHalted (f (s.om l).halted))).setSlot l k o := by
  cases l <;> simp [State.setSlot, State.setOm, State.om, LaneTbl.set, LaneTbl.get, OrderManager.withHalted]

theorem State.skipHead_skips {h : HeadId} (hactive : s.active l = some (k, o)) (hfront : (o.front h).isSome)
    (hnot : ¬ ∃ j ∈ o.joints, j.head = h ∧ (j.state = .transfer ∨ j.state = .heating)) :
    s.skipHead l h = ((s.headSkipped l k o h).nearDoneTest l).completionCheck l := by
  have hno : o.headInAttempt h = false := Bool.eq_false_iff.mpr fun hin => hnot (Order.headInAttempt_iff.mp hin)
  have hlist : o.withoutHead h (s.om l).halted = s.listWithout l o h := by
    refine List.filter_congr fun i _ => ?_
    cases o.joints[i]? <;> rfl
  have hjoints : (s.mapJoints l k fun j => if j.head = h ∧ j.outcome = none then j.giveOutcome .skippedHead else j) =
      s.setSlot l k (some (o.without h)) := State.mapJoints_of_order (State.order_of_active hactive).1 _
  unfold State.skipHead
  rw [hactive]
  dsimp only
  rw [hfront, hno, Bool.not_false, Bool.and_true, if_pos rfl, hjoints, State.setSlot_modOm, hlist, State.headSkipped]
  split
  · rename_i hstate
    rw [State.leaveHalted_resumed (o := o.without h) hstate]
  · rename_i hstate
    rw [State.leaveHalted_other (o' := o.without h) (by rw [State.order_setSlot, if_pos ⟨rfl, rfl⟩]) hstate]

theorem State.order_headSkipped (h : HeadId) (m : Lane) (n : SlotId) : (s.headSkipped l k o h).order m n =
    if m = l ∧ n = k then
      some { o.without h with state := if o.state = .halted ∧ s.listWithout l o h = [] then .running else o.state }
    else s.order m n := by
  unfold State.headSkipped
  split
  · rename_i hstate
    rw [State.order_resumed, stateAfter]
    simp only [hstate, true_and]
  · rename_i hstate
    rw [State.order_setSlot, State.order_setOm]
    refine ite_congr rfl (fun _ => ?_) fun _ => ?_
    · rw [if_neg fun hc => hstate hc.1]
      rfl
    · split
      · rename_i hm
        rw [hm]
        rfl
      · rfl

theorem State.om_headSkipped (h : HeadId) (m : Lane) : (s.headSkipped l k o h).om m = { s.om m with
    slots := ((s.headSkipped l k o h).om m).slots
    halted := if m = l then s.listWithout l o h else (s.om m).halted } := by
  unfold State.headSkipped State.resumed
  split
  all_goals
    by_cases hm : m = l
    · subst hm
      simp [State.om_setSlot, OrderManager.withHalted]
    · simp [State.om_setSlot, hm]

theorem State.unit_headSkipped (h : HeadId) :
    (o.state = .halted ∧ s.listWithout l o h = [] → (s.headSkipped l k o h).unit (lanePort l) =
      { s.unit (lanePort l) with halted := false }) ∧
    (¬ (o.state = .halted ∧ s.listWithout l o h = []) → (s.headSkipped l k o h).units = s.units) ∧
    (∀ m, m ≠ l → (s.headSkipped l k o h).unit (lanePort m) = s.unit (lanePort m)) := by
  unfold State.headSkipped
  split
  · rename_i hstate
    refine ⟨fun hempty => ?_, fun hnot => ?_, fun m hm => ?_⟩
    · rw [State.unit_resumed, if_pos ⟨rfl, hempty.2⟩]
    · have hrest : s.listWithout l o h ≠ [] := fun hempty => hnot ⟨hstate, hempty⟩
      unfold State.resumed
      rw [if_neg hrest]
      have hself : (s.setUnit (lanePort l) (s.unit (lanePort l))).units = s.units :=
        congrArg State.units (s.setUnit_self (lanePort l))
      exact hself
    · rw [State.unit_resumed, if_neg fun hc => lanePort_ne hm hc.1]
  · rename_i hstate
    exact ⟨fun hempty => absurd hempty.1 hstate, fun _ => rfl, fun _ _ => rfl⟩

theorem State.headSkipped_blocks (h : HeadId) : (s.headSkipped l k o h).heads = s.heads ∧
    (s.headSkipped l k o h).channels = s.channels ∧ (s.headSkipped l k o h).arbiter = s.arbiter ∧
    (s.headSkipped l k o h).rings = s.rings ∧ (s.headSkipped l k o h).recipes = s.recipes ∧
    (s.headSkipped l k o h).faults = s.faults ∧ (s.headSkipped l k o h).cabinet = s.cabinet ∧
    (s.headSkipped l k o h).ports = s.ports := by
  unfold State.headSkipped
  split
  · obtain ⟨hheads, hchannels, hrings, hrecipes, harbiter, hfaults, hcabinet, hports⟩ :=
      State.resumed_blocks (s := s) (l := l) (k := k) (o := o.without h) (s.listWithout l o h)
    exact ⟨hheads, hchannels, harbiter, hrings, hrecipes, hfaults, hcabinet, hports⟩
  · exact ⟨rfl, rfl, rfl, rfl, rfl, rfl, rfl, rfl⟩

theorem LaneStep.headSkipped (h : HeadId) : LaneStep l s (s.headSkipped l k o h) where
  health i := by rw [State.head_congr (State.headSkipped_blocks h).1]
  headFault q := by
    unfold State.headSkipped
    split
    · rw [State.unit_resumed]
      split <;> rfl
    · rfl
  otherPort := (State.unit_headSkipped h).2.2
  stays := by rw [(State.headSkipped_blocks h).2.2.1]
  candidate := Or.inl (by rw [(State.headSkipped_blocks h).2.2.1])

theorem LaneStep.skipHead (s : State) (l : Lane) (h : HeadId) : LaneStep l s (s.skipHead l h) := by
  cases hactive : s.active l with
  | none =>
    rw [State.skipHead_idle h hactive]
    exact refl l s
  | some p =>
    by_cases hskips : (p.2.front h).isSome ∧
        ¬ ∃ j ∈ p.2.joints, j.head = h ∧ (j.state = .transfer ∨ j.state = .heating)
    · rw [State.skipHead_skips hactive hskips.1 hskips.2]
      exact ((LaneStep.headSkipped h).trans nearDoneTest).trans completionCheck
    · have hwaits : p.2.front h = none ∨
          ∃ j ∈ p.2.joints, j.head = h ∧ (j.state = .transfer ∨ j.state = .heating) := by
        by_contra hneither
        obtain ⟨hsome, hin⟩ := not_or.mp hneither
        exact hskips ⟨Option.isSome_iff_ne_none.mpr hsome, hin⟩
      rw [State.skipHead_waits hactive hwaits]
      exact refl l s
end

/-! ### A flag that goes from clear to set (R51) -/

/-- The head's record with the health flags given. -/
def HeadRec.withHealth (r : HeadRec) (x : Health) : HeadRec := { r with health := x }

/-- HEAD_FAULT posted to the supervisor's port and to the head's lane port. -/
def State.headFaultPosted (s : State) (lane : Option Lane) (c : Context) : State :=
  match lane with
  | some l => (s.post .supervisor .headFault c).post (lanePort l) .headFault c
  | none => s.post .supervisor .headFault c

/-- The head's record written with its flag. -/
def State.flagSet (s : State) (h : HeadId) (f : HealthFlag) : State :=
  s.setHead h ((s.head h).withHealth ((s.head h).health.set f))

/-- The state of a flag's raising before the head's joints are skipped. -/
def State.flagRaised (s : State) (h : HeadId) (f : HealthFlag) : State :=
  ((((s.flagSet h f).headFaultPosted (s.head h).lane (s.headContext h)).dropCandidateIf (· == h)).liftStays
    (· == h)).abandonMove h

theorem State.setHealth_again {s : State} {h : HeadId} {f : HealthFlag} (hf : (s.head h).health.has f = true) :
    s.setHealth h f = s := if_pos hf

section
variable (s : State) (h : HeadId) (f : HealthFlag)

theorem State.setHealth_first (hf : (s.head h).health.has f = false) :
    ((s.head h).lane = none → s.setHealth h f = s.flagRaised h f) ∧
      ∀ l, (s.head h).lane = some l → s.setHealth h f = (s.flagRaised h f).skipHead l h := by
  have hset : (s.modHead h fun r => { r with health := r.health.set f }) = s.flagSet h f := rfl
  unfold State.setHealth State.flagRaised State.headFaultPosted
  rw [if_neg (hf ▸ Bool.false_ne_true), hset]
  generalize s.flagSet h f = t
  exact ⟨fun hlane => by simp only [hlane], fun l hlane => by simp only [hlane]⟩

theorem State.headFaultPosted_blocks (lane : Option Lane) (c : Context) : (s.headFaultPosted lane c).oms = s.oms ∧
    (s.headFaultPosted lane c).rings = s.rings ∧ (s.headFaultPosted lane c).recipes = s.recipes ∧
    (s.headFaultPosted lane c).heads = s.heads ∧ (s.headFaultPosted lane c).arbiter = s.arbiter ∧
    (s.headFaultPosted lane c).channels = s.channels ∧ (s.headFaultPosted lane c).faults = s.faults ∧
    (s.headFaultPosted lane c).cabinet = s.cabinet ∧ (s.headFaultPosted lane c).ports = s.ports := by
  unfold State.headFaultPosted State.post
  split <;> simp

theorem State.unit_headFaultPosted (lane : Option Lane) (c : Context) :
    ((s.headFaultPosted lane c).unit .supervisor).headFault = some c ∧
    (∀ l, lane = some l → ((s.headFaultPosted lane c).unit (lanePort l)).headFault = some c) ∧
    (∀ l, lane ≠ some l → (s.headFaultPosted lane c).unit (lanePort l) = s.unit (lanePort l)) := by
  have hposted : ∀ (t : State) p, ((t.post p .headFault c).unit p).headFault = some c := fun t p => by
    rw [State.post, State.modUnit_eq, State.unit_setUnit, if_pos rfl]
    rfl
  have hother : ∀ (t : State) p q, q ≠ p → (t.post p .headFault c).unit q = t.unit q := fun t p q hq => by
    rw [State.post, State.modUnit_eq, State.unit_setUnit, if_neg hq]
  have hsupervisor : ∀ l : Lane, lanePort l ≠ .supervisor := fun l => by cases l <;> decide
  unfold State.headFaultPosted
  cases lane with
  | none =>
    exact ⟨hposted s .supervisor, nofun, fun l _ => hother s _ _ (hsupervisor l)⟩
  | some l =>
    refine ⟨?_, fun m hm => ?_, fun m hm => ?_⟩
    · rw [hother _ _ _ (hsupervisor l).symm, hposted]
    · obtain rfl := Option.some.inj hm
      exact hposted _ _
    · rw [hother _ _ _ (lanePort_ne fun e => hm (congrArg some e.symm)), hother _ _ _ (hsupervisor m)]

theorem State.abandonMove_blocks : (s.abandonMove h).oms = s.oms ∧ (s.abandonMove h).rings = s.rings ∧
    (s.abandonMove h).recipes = s.recipes ∧ (s.abandonMove h).heads = s.heads ∧
    (s.abandonMove h).arbiter = s.arbiter ∧ (s.abandonMove h).units = s.units ∧
    (s.abandonMove h).faults = s.faults ∧ (s.abandonMove h).cabinet = s.cabinet ∧
    (s.abandonMove h).ports = s.ports := by
  unfold State.abandonMove
  split
  · rw [State.modChan_eq]
    simp
  · simp

/-- A move is under way for the head on the channel. -/
def State.moving (s : State) (h : HeadId) (c : ChannelId) : Prop :=
  (s.chan c).state = .transfer ∧ (s.chan c).parked = some h ∧ (s.chan c).attempt.isSome

theorem State.moving_iff (c : ChannelId) : ((s.chan c).state == .transfer && (s.chan c).parked == some h &&
    (s.chan c).attempt.isSome) = true ↔ s.moving h c := by
  simp [State.moving, and_assoc]

theorem State.chan_abandonMove :
    (∀ c a, s.moving h c → (s.chan c).attempt = some a → (∀ d, s.moving h d → d = c) →
      (s.abandonMove h).chan c = { s.chan c with attempt := some { a with abandoned := true } }) ∧
    (∀ c, ¬ s.moving h c → (s.abandonMove h).chan c = s.chan c) := by
  unfold State.abandonMove
  cases hmove : s.movingChannel h with
  | none =>
    refine ⟨fun c a hc _ _ => ?_, fun c _ => rfl⟩
    have hnone := List.find?_eq_none.mp hmove c (mem_allChannels c)
    exact absurd ((s.moving_iff h c).mpr hc) hnone
  | some d =>
    have hfound := List.find?_some (p := fun c => (s.chan c).state == .transfer && (s.chan c).parked == some h &&
      (s.chan c).attempt.isSome) hmove
    have hd := (s.moving_iff h d).mp hfound
    refine ⟨fun c a hc ha honly => ?_, fun c hc => ?_⟩
    · obtain rfl := honly d hd
      dsimp only
      rw [State.modChan_eq, State.chan_setChan, if_pos rfl, ha]
      rfl
    · dsimp only
      rw [State.modChan_eq, State.chan_setChan, if_neg fun (e : c = d) => hc (e ▸ hd)]

theorem State.flagRaised_blocks : (s.flagRaised h f).oms = s.oms ∧ (s.flagRaised h f).rings = s.rings ∧
    (s.flagRaised h f).recipes = s.recipes ∧
    (∀ i, (s.flagRaised h f).head i =
      if i = h then { s.head h with health := (s.head h).health.set f } else s.head i) ∧
    (s.flagRaised h f).arbiter.candidate = s.arbiter.candidate.filter (· != h) ∧
    (∀ c, (s.flagRaised h f).stay c = (s.stay c).filter (· != h)) := by
  obtain ⟨homs, hrings, hrecipes, hheads, harbiter, -, -, -, -⟩ :=
    (s.flagSet h f).headFaultPosted_blocks (s.head h).lane (s.headContext h)
  unfold State.flagRaised
  generalize (s.flagSet h f).headFaultPosted (s.head h).lane (s.headContext h) = t at *
  rw [State.dropCandidateIf_eq]
  obtain ⟨homsA, hringsA, hrecipesA, hheadsA, harbiterA, -, -, -, -⟩ := State.abandonMove_blocks
    ((t.setArbiter { t.arbiter with candidate := t.arbiter.candidate.filter fun i => !(i == h) }).liftStays (· == h)) h
  refine ⟨homsA.trans homs, hringsA.trans hrings, hrecipesA.trans hrecipes, fun i => ?_, ?_, fun c => ?_⟩
  · rw [State.head_congr (hheadsA.trans hheads), State.flagSet, State.head_setHead]
    rfl
  · rw [harbiterA, State.arbiter_liftStays, State.setArbiter_arbiter, harbiter]
    rfl
  · have hstay : ∀ c, t.stay c = s.stay c := fun c => by
      rw [State.stay, harbiter]
      rfl
    rw [State.stay, harbiterA]
    refine (State.stay_liftStays _ _ _).trans ?_
    exact congrArg (Option.filter _) (hstay c)

theorem State.flagRaised_kept : (s.flagRaised h f).arbiter.budget = s.arbiter.budget ∧
    (s.flagRaised h f).arbiter.committed = s.arbiter.committed ∧ (s.flagRaised h f).faults = s.faults ∧
    (s.flagRaised h f).cabinet = s.cabinet ∧ (s.flagRaised h f).ports = s.ports := by
  obtain ⟨-, -, -, -, harbiter, -, hfaults, hcabinet, hports⟩ :=
    (s.flagSet h f).headFaultPosted_blocks (s.head h).lane (s.headContext h)
  unfold State.flagRaised
  generalize (s.flagSet h f).headFaultPosted (s.head h).lane (s.headContext h) = t at *
  rw [State.dropCandidateIf_eq]
  obtain ⟨-, -, -, -, harbiterA, -, hfaultsA, hcabinetA, hportsA⟩ := State.abandonMove_blocks
    ((t.setArbiter { t.arbiter with candidate := t.arbiter.candidate.filter fun i => !(i == h) }).liftStays (· == h)) h
  refine ⟨?_, ?_, hfaultsA.trans hfaults, hcabinetA.trans hcabinet, hportsA.trans hports⟩
  · rw [harbiterA, State.arbiter_liftStays, State.setArbiter_arbiter, harbiter]
    rfl
  · rw [harbiterA, State.arbiter_liftStays, State.setArbiter_arbiter, harbiter]
    rfl

theorem State.unit_flagRaised :
    ((s.flagRaised h f).unit .supervisor).headFault = some (s.headContext h) ∧
    (∀ l, (s.head h).lane = some l → ((s.flagRaised h f).unit (lanePort l)).headFault = some (s.headContext h)) ∧
    (∀ l, (s.head h).lane ≠ some l → (s.flagRaised h f).unit (lanePort l) = s.unit (lanePort l)) := by
  have hposted := (s.flagSet h f).unit_headFaultPosted (s.head h).lane (s.headContext h)
  unfold State.flagRaised
  generalize (s.flagSet h f).headFaultPosted (s.head h).lane (s.headContext h) = t at *
  rw [State.dropCandidateIf_eq]
  have hunits := (State.abandonMove_blocks
    ((t.setArbiter { t.arbiter with candidate := t.arbiter.candidate.filter fun i => !(i == h) }).liftStays (· == h))
    h).2.2.2.2.2.1
  have hunit : ∀ q, ((((t.setArbiter { t.arbiter with
      candidate := t.arbiter.candidate.filter fun i => !(i == h) }).liftStays (· == h))).abandonMove h).unit q =
      t.unit q := State.unit_congr hunits
  simp only [hunit]
  exact hposted

theorem State.chan_flagRaised :
    (∀ c a, s.moving h c → (s.chan c).attempt = some a → (∀ d, s.moving h d → d = c) →
      (s.flagRaised h f).chan c = { s.chan c with attempt := some { a with abandoned := true } }) ∧
    (∀ c, ¬ s.moving h c → (s.flagRaised h f).chan c = s.chan c) := by
  have hchannels := (State.headFaultPosted_blocks (s.flagSet h f) (s.head h).lane
    (s.headContext h)).2.2.2.2.2.1
  unfold State.flagRaised
  generalize (s.flagSet h f).headFaultPosted (s.head h).lane (s.headContext h) = t at *
  have hchan : ((t.dropCandidateIf (· == h)).liftStays (· == h)).chan = s.chan := funext fun c => by
    rw [State.dropCandidateIf_eq]
    exact State.chan_congr (s := s) hchannels c
  have habandon := State.chan_abandonMove ((t.dropCandidateIf (· == h)).liftStays (· == h)) h
  unfold State.moving at habandon ⊢
  rw [hchan] at habandon
  exact habandon
end

theorem filter_ne_ne {h : HeadId} (x : Option HeadId) : x.filter (· != h) ≠ some h := fun hx => by
  have hne := (Option.filter_eq_some_iff.mp hx).2
  simp at hne

/-- What the raising of a flag leaves, the skip of the head's joints included. -/
theorem State.setHealth_step (s : State) (h : HeadId) (f : HealthFlag) (hf : (s.head h).health.has f = false) :
    ∃ u, u = s.flagRaised h f ∧ ((s.head h).lane = none → s.setHealth h f = u) ∧
      (∀ l, (s.head h).lane = some l → s.setHealth h f = u.skipHead l h ∧ LaneStep l u (s.setHealth h f)) ∧
      (s.setHealth h f).plant = u.plant ∧ (s.setHealth h f).outer = u.outer := by
  obtain ⟨hnone, hsome⟩ := s.setHealth_first h f hf
  generalize s.flagRaised h f = u at hnone hsome
  refine ⟨u, rfl, hnone, fun l hl => ⟨hsome l hl, hsome l hl ▸ LaneStep.skipHead u l h⟩, ?_⟩
  cases hlane : (s.head h).lane with
  | none =>
    rw [hnone hlane]
    exact ⟨rfl, rfl⟩
  | some l =>
    rw [hsome l hlane]
    exact ⟨u.skipHead_plant l h, u.skipHead_outer l h⟩

/-- The flags, HEAD_FAULT, the candidate and the stays after a flag was raised. -/
theorem State.setHealth_raises (s : State) (h : HeadId) (f : HealthFlag) (hf : (s.head h).health.has f = false) :
    ((s.setHealth h f).head h).health = (s.head h).health.set f ∧
      (∀ i, i ≠ h → ((s.setHealth h f).head i).health = (s.head i).health) ∧
      ((s.setHealth h f).unit .supervisor).headFault = some (s.headContext h) ∧
      (∀ l, (s.head h).lane = some l → ((s.setHealth h f).unit (lanePort l)).headFault = some (s.headContext h)) ∧
      (∀ l, (s.head h).lane ≠ some l → (s.setHealth h f).unit (lanePort l) = s.unit (lanePort l)) ∧
      (s.setHealth h f).arbiter.candidate ≠ some h ∧ ∀ c, (s.setHealth h f).stay c ≠ some h := by
  obtain ⟨u, hu, hnone, hsome, -, -⟩ := s.setHealth_step h f hf
  obtain ⟨-, -, -, hhead, hcandidate, hstay⟩ := s.flagRaised_blocks h f
  obtain ⟨hsupervisor, hlanePort, hother⟩ := s.unit_flagRaised h f
  rw [← hu] at hhead hcandidate hstay hsupervisor hlanePort hother
  have hset : (u.head h).health = (s.head h).health.set f := by rw [hhead, if_pos rfl]
  have hkept : ∀ i, i ≠ h → (u.head i).health = (s.head i).health := fun i hi => by rw [hhead, if_neg hi]
  have hdropped : u.arbiter.candidate ≠ some h := hcandidate ▸ filter_ne_ne _
  have hlifted : ∀ c, u.stay c ≠ some h := fun c => hstay c ▸ filter_ne_ne _
  cases hlane : (s.head h).lane with
  | none =>
    rw [hnone hlane]
    rw [hlane] at hlanePort hother
    exact ⟨hset, hkept, hsupervisor, hlanePort, hother, hdropped, hlifted⟩
  | some l =>
    obtain ⟨-, hstep⟩ := hsome l hlane
    refine ⟨(hstep.health h).trans hset, fun i hi => (hstep.health i).trans (hkept i hi),
      (hstep.headFault _).trans hsupervisor, fun m hm => (hstep.headFault _).trans (hlanePort m (hlane.trans hm)),
      fun m hm => (hstep.otherPort m fun e => hm (congrArg some e.symm)).trans (hother m (hlane ▸ hm)), ?_,
      fun c => ?_⟩
    · rcases hstep.candidate with hc | hc
      · rw [hc]
        exact hdropped
      · rw [hc]
        exact nofun
    · rw [State.stay, hstep.stays]
      exact hlifted c

/-- Settles O35: the skip by the order's joints, and the raising with what the lane's Order Manager leaves of it. -/
theorem healthFlagGoesFromClearToSet : Obligations.HealthFlagGoesFromClearToSet := by
  intro h f s
  refine ⟨fun l k o hactive => ⟨State.skipHead_waits hactive, fun hfront hnot => ?_⟩,
    fun l hactive => State.skipHead_idle h hactive, State.setHealth_again, fun hf => ?_⟩
  · obtain ⟨hempty, hkept, hother⟩ := State.unit_headSkipped (s := s) (l := l) (k := k) (o := o) h
    exact ⟨s.headSkipped l k o h, State.skipHead_skips hactive hfront hnot, State.order_headSkipped h,
      State.om_headSkipped h, hempty, hkept, hother, State.headSkipped_blocks h⟩
  · obtain ⟨u, hu, hnone, hsome, hplant, houter⟩ := s.setHealth_step h f hf
    obtain ⟨homs, hrings, hrecipes, hhead, hcandidate, hstay⟩ := s.flagRaised_blocks h f
    obtain ⟨hbudget, hcommitted, hfaults, hcabinet, hports⟩ := s.flagRaised_kept h f
    obtain ⟨hset, hkept, hsupervisor, hlanePort, hother, hdropped, hlifted⟩ := s.setHealth_raises h f hf
    have hmoves := s.chan_flagRaised h f
    rw [← hu] at homs hrings hrecipes hhead hcandidate hstay hbudget hcommitted hfaults hcabinet hports hmoves
    refine ⟨hset, hkept, hsupervisor, hlanePort, hother, hdropped, hlifted,
      (State.budget_of_plant hplant).trans hbudget, (State.committed_of_plant hplant).trans hcommitted,
      (State.faults_of_outer houter).trans hfaults, (State.cabinet_of_outer houter).trans hcabinet,
      (State.ports_of_outer houter).trans hports, ?_, u, hnone, fun l hl => (hsome l hl).1, homs, hrings, hrecipes,
      hhead, hcandidate, hstay⟩
    have hchan := State.chan_of_plant hplant
    exact ⟨fun c a hc ha honly => (hchan c).trans (hmoves.1 c a hc ha honly),
      fun c hc => (hchan c).trans (hmoves.2 c hc)⟩

/-! ### CLEAR_HEAD_HEALTH (R53) -/

theorem State.headContext_congr {s t : State} {h : HeadId} (hlane : (t.head h).lane = (s.head h).lane)
    (hactive : ∀ l, t.active l = s.active l) : t.headContext h = s.headContext h := by
  unfold State.headContext
  rw [hlane]
  simp only [hactive]

/-- The head's flags as CLEAR_HEAD_HEALTH clears them. -/
def State.flagsCleared (s : State) (h : HeadId) (n : Nat) : State :=
  s.setHead h ((s.head h).withHealth (clearFlags (s.head h).health n))

/-- COOLANT_LOW is cleared while the switch stands at LOW. -/
def State.coolantBack (s : State) (h : HeadId) (n : Nat) : Bool :=
  (s.head h).health.coolantLow && n.testBit 2 && (s.head h).coolant == .low

theorem State.clearHealth_eq (s : State) (h : HeadId) (n : Nat) : s.clearHealth h n =
    (if s.coolantBack h n then (s.flagsCleared h n).setHealth h .coolantLow else s.flagsCleared h n).arbitrate := rfl

theorem State.health_arbitrate (s : State) (h : HeadId) : (s.arbitrate.head h).health = (s.head h).health := by
  rw [s.arbitrate_to.head]

theorem exec_clearHeadHealth {h : HeadId} {n : Nat} {tag : Byte} {s : State} (hn : n < 256)
    (hsetup : s.mode ≠ .unconfigured) (htakes : s.takes ⟨.supervisor, 0x33, tag, be1 h.val ++ be1 n⟩) :
    exec (.clearHeadHealth .supervisor tag (be1 h.val ++ be1 n)) s =
      .next ((s.clearHealth h n).answered ⟨.supervisor, 0x33, tag, be1 h.val ++ be1 n⟩ .ok
        (be1 ((s.clearHealth h n).head h).health.num)) := by
  refine serveSupervisor_accepted (body := clearHeadHealthBody (be1 h.val ++ be1 n)) rfl htakes ?_
  have hhead : byteAt (be1 h.val ++ be1 n) 0 = h.val := byteAt_be1_val h (by decide)
  have hflags : byteAt (be1 h.val ++ be1 n) 1 = n := byteAt_be1 hn
  unfold clearHeadHealthBody
  rw [hhead, hflags, decide_eq_true h.isLt, need_true, needSetup_of_ne_unconfigured hsetup, Fin.ofNat_val_eq_self]

/-- Settles O30: the flags written, and COOLANT_LOW raised again over the LOW switch. -/
theorem headHealthIsCleared : Obligations.HeadHealthIsCleared := by
  intro h n tag s hn hsetup
  dsimp only
  intro htakes
  have hexec := exec_clearHeadHealth hn hsetup htakes
  have hcleared : ((s.flagsCleared h n).head h).health = clearFlags (s.head h).health n := by
    rw [State.flagsCleared, State.head_setHead, if_pos rfl]
    rfl
  have hback : s.coolantBack h n = true ↔
      (s.head h).health.coolantLow = true ∧ n.testBit 2 = true ∧ (s.head h).coolant = .low := by
    simp [State.coolantBack, and_assoc]
  rw [State.clearHealth_eq] at hexec
  refine ⟨fun hnot => ?_, fun hcause => ⟨_, hexec, ?_, ?_⟩⟩
  · rw [if_neg fun h => hnot (hback.mp h), State.health_arbitrate, hcleared] at hexec
    exact hexec
  all_goals
    have hclear : ((s.flagsCleared h n).head h).health.has .coolantLow = false := by
      rw [hcleared]
      simp [Health.has, clearFlags, hcause.2.1]
    obtain ⟨hset, -, hsupervisor, -⟩ := (s.flagsCleared h n).setHealth_raises h .coolantLow hclear
    rw [if_pos (hback.mpr hcause)]
  · rw [State.health_arbitrate, hset, hcleared]
    rfl
  · have hunits := State.arbitrate_to ((s.flagsCleared h n).setHealth h .coolantLow)
    obtain ⟨-, -, -, -, -, -, -, -, hunits, -, -⟩ := hunits.blocks
    have hcontext : (s.flagsCleared h n).headContext h = s.headContext h :=
      State.headContext_congr (by rw [State.flagsCleared, State.head_setHead, if_pos rfl]; rfl) fun _ => rfl
    rw [State.unit_congr hunits, hsupervisor, hcontext]

end Sys2Proof.Machine
end
